-- ==== Sys2Proof/Word.lean ====
section
/-! DEFINITION. The two widths of the core: a byte and a 16-bit word (R10, R12 of 00_scope.md). The helpers that split,
join and extend them are in `Sys2Proof/Decode.lean`. -/

namespace Sys2Proof

/-- A byte: 8 bits (R12). Every register half and every memory cell holds one. -/
abbrev Byte := BitVec 8

/-- A word: 16 bits (R12). Addresses, SP, PC and the pair views. -/
abbrev Word := BitVec 16

end Sys2Proof
end

