-- ==== Sys2Proof/Config.lean ====
section
/-! DEFINITION. The open parameters of the block (R11, 00_scope.md), their defaults, and the free values: what the
specification leaves to the environment or does not state. A free value is a constant without a body, so no proof can
see what it is. -/

namespace Sys2Proof

/-- `ROM_WRITE_POLICY` (R75): what a write to 0x0000-0x7FFF does. -/
inductive RomWritePolicy where
  | store
  | ignore
  deriving DecidableEq, Repr

/-- `STOP_LENGTH` (R136): how many bytes STOP has. -/
inductive StopLength where
  | one
  | two
  deriving DecidableEq, Repr

/-- One bus transaction (R16, R99): a one-byte read of an address with the byte it returned, or a one-byte write. -/
inductive BusTxn where
  | read (addr : Word) (v : Byte)
  | write (addr : Word) (v : Byte)
  deriving DecidableEq, Repr

/-- FREE VALUE. The oracle `ExtRead(history, addr)` of R73: any byte, with no law that relates it to earlier writes
(log entry 1). The history is every bus transaction so far, newest first, so each read has a value of its own. -/
opaque Config.extRead (history : List BusTxn) (addr : Word) : Byte

/-- FREE VALUE. The licensee code when a byte of the new scheme is no ASCII digit (R85, U12: "any value"; log entry 15). -/
opaque Config.licenseeOfNonDigits (tens units : Byte) : Nat

/-- The default of `LOGO_BYTES` (R83), marked there as general knowledge. -/
def Config.logoBytes : List Byte :=
  [0xCE, 0xED, 0x66, 0x66, 0xCC, 0x0D, 0x00, 0x0B, 0x03, 0x73, 0x00, 0x83, 0x00, 0x0C, 0x00, 0x0D] ++
  [0x00, 0x08, 0x11, 0x1F, 0x88, 0x89, 0x00, 0x0E, 0xDC, 0xCC, 0x6E, 0xE6, 0xDD, 0xDD, 0xD9, 0x99] ++
  [0xBB, 0xBB, 0x67, 0x63, 0x6E, 0x0E, 0xEC, 0xCC, 0xDD, 0xDC, 0x99, 0x9F, 0xBB, 0xB9, 0x33, 0x3E]

/-- The default of `KNOWN_CART_TYPES` (the table of R88), marked there as general knowledge. -/
def Config.knownCartTypes : List Byte :=
  [0x00, 0x01, 0x02, 0x03, 0x05, 0x06, 0x08, 0x09, 0x0B, 0x0C, 0x0D, 0x0F, 0x10, 0x11] ++
  [0x12, 0x13, 0x19, 0x1A, 0x1B, 0x1C, 0x1D, 0x1E, 0x20, 0x22, 0xFC, 0xFD, 0xFE, 0xFF]

/-- The open parameters of R11 that construction takes beside `ROM_IMAGE`. -/
structure Params where
  romWritePolicy : RomWritePolicy
  stopLength : StopLength
  logoBytes : List Byte
  knownCartTypes : List Byte
  deriving DecidableEq, Repr

/-- The defaults of R11 and of D13, D18 and D23 (92_eei_decisions.md). -/
def Params.default : Params where
  romWritePolicy := .store
  stopLength := .two
  logoBytes := Config.logoBytes
  knownCartTypes := Config.knownCartTypes

end Sys2Proof
end

