-- ==== Sys2Proof/Syntax.lean ====
section
/-! DEFINITION. The instructions: one constructor per mnemonic of spec/opcode_table.json, those with an operand
first, each group in the order of the rules of 40_loads.md to 45_system.md, named as R138 spells them ((HL) is `atHL`, (HL+)
is `atHLInc`, (a16) is `atA16`).
Immediates are operands (R125): `n8`, `e8`, `a8` a byte, `n16`, `a16` a word. STOP's second byte is ignored (R422), so it is
no operand. The eleven illegal entries are one marker with its byte (R134, R426). `prefix_cb b` is the base table's escape
with its second byte (R425). -/

namespace Sys2Proof

/-- The instruction set (R2): the base table and the prefixed table. -/
inductive Instr where
  /- Instructions with an operand. -/
  -- R203
  | ld_b_n8 (n : Byte)
  | ld_c_n8 (n : Byte)
  | ld_d_n8 (n : Byte)
  | ld_e_n8 (n : Byte)
  | ld_h_n8 (n : Byte)
  | ld_l_n8 (n : Byte)
  | ld_a_n8 (n : Byte)
  -- R204
  | ld_atHL_n8 (n : Byte)
  -- R213
  | ld_a_atA16 (addr : Word)
  -- R214
  | ld_atA16_a (addr : Word)
  -- R215
  | ldh_a_atA8 (o : Byte)
  -- R216
  | ldh_atA8_a (o : Byte)
  -- R219
  | ld_bc_n16 (n : Word)
  | ld_de_n16 (n : Word)
  | ld_hl_n16 (n : Word)
  | ld_sp_n16 (n : Word)
  -- R220
  | ld_atA16_sp (addr : Word)
  -- R222
  | ld_hl_spPlusE8 (e : Byte)
  -- R251
  | add_a_n8 (n : Byte)
  -- R252
  | adc_a_n8 (n : Byte)
  -- R253
  | sub_a_n8 (n : Byte)
  -- R254
  | sbc_a_n8 (n : Byte)
  -- R255
  | and_a_n8 (n : Byte)
  -- R256
  | xor_a_n8 (n : Byte)
  -- R257
  | or_a_n8 (n : Byte)
  -- R258
  | cp_a_n8 (n : Byte)
  -- R304
  | add_sp_e8 (e : Byte)
  -- R381
  | jp_n16 (n : Word)
  -- R382
  | jp_nz_n16 (n : Word)
  | jp_z_n16 (n : Word)
  | jp_nc_n16 (n : Word)
  | jp_c_n16 (n : Word)
  -- R384
  | jr_e8 (e : Byte)
  -- R385
  | jr_nz_e8 (e : Byte)
  | jr_z_e8 (e : Byte)
  | jr_nc_e8 (e : Byte)
  | jr_c_e8 (e : Byte)
  -- R386
  | call_n16 (n : Word)
  -- R387
  | call_nz_n16 (n : Word)
  | call_z_n16 (n : Word)
  | call_nc_n16 (n : Word)
  | call_c_n16 (n : Word)
  -- R425
  | prefix_cb (b : Byte)
  -- R426
  | illegal (op : Byte)
  /- Instructions without an operand. -/
  -- R200
  | ld_b_b
  | ld_b_c
  | ld_b_d
  | ld_b_e
  | ld_b_h
  | ld_b_l
  | ld_b_a
  | ld_c_b
  | ld_c_c
  | ld_c_d
  | ld_c_e
  | ld_c_h
  | ld_c_l
  | ld_c_a
  | ld_d_b
  | ld_d_c
  | ld_d_d
  | ld_d_e
  | ld_d_h
  | ld_d_l
  | ld_d_a
  | ld_e_b
  | ld_e_c
  | ld_e_d
  | ld_e_e
  | ld_e_h
  | ld_e_l
  | ld_e_a
  | ld_h_b
  | ld_h_c
  | ld_h_d
  | ld_h_e
  | ld_h_h
  | ld_h_l
  | ld_h_a
  | ld_l_b
  | ld_l_c
  | ld_l_d
  | ld_l_e
  | ld_l_h
  | ld_l_l
  | ld_l_a
  | ld_a_b
  | ld_a_c
  | ld_a_d
  | ld_a_e
  | ld_a_h
  | ld_a_l
  | ld_a_a
  -- R201
  | ld_b_atHL
  | ld_c_atHL
  | ld_d_atHL
  | ld_e_atHL
  | ld_h_atHL
  | ld_l_atHL
  | ld_a_atHL
  -- R202
  | ld_atHL_b
  | ld_atHL_c
  | ld_atHL_d
  | ld_atHL_e
  | ld_atHL_h
  | ld_atHL_l
  | ld_atHL_a
  -- R205
  | ld_a_atBC
  -- R206
  | ld_a_atDE
  -- R207
  | ld_atBC_a
  -- R208
  | ld_atDE_a
  -- R209
  | ld_a_atHLInc
  -- R210
  | ld_a_atHLDec
  -- R211
  | ld_atHLInc_a
  -- R212
  | ld_atHLDec_a
  -- R217
  | ld_a_atC
  -- R218
  | ld_atC_a
  -- R221
  | ld_sp_hl
  -- R223
  | push_bc
  | push_de
  | push_hl
  | push_af
  -- R224
  | pop_bc
  | pop_de
  | pop_hl
  -- R225
  | pop_af
  -- R251
  | add_a_b
  | add_a_c
  | add_a_d
  | add_a_e
  | add_a_h
  | add_a_l
  | add_a_atHL
  | add_a_a
  -- R252
  | adc_a_b
  | adc_a_c
  | adc_a_d
  | adc_a_e
  | adc_a_h
  | adc_a_l
  | adc_a_atHL
  | adc_a_a
  -- R253
  | sub_a_b
  | sub_a_c
  | sub_a_d
  | sub_a_e
  | sub_a_h
  | sub_a_l
  | sub_a_atHL
  | sub_a_a
  -- R254
  | sbc_a_b
  | sbc_a_c
  | sbc_a_d
  | sbc_a_e
  | sbc_a_h
  | sbc_a_l
  | sbc_a_atHL
  | sbc_a_a
  -- R255
  | and_a_b
  | and_a_c
  | and_a_d
  | and_a_e
  | and_a_h
  | and_a_l
  | and_a_atHL
  | and_a_a
  -- R256
  | xor_a_b
  | xor_a_c
  | xor_a_d
  | xor_a_e
  | xor_a_h
  | xor_a_l
  | xor_a_atHL
  | xor_a_a
  -- R257
  | or_a_b
  | or_a_c
  | or_a_d
  | or_a_e
  | or_a_h
  | or_a_l
  | or_a_atHL
  | or_a_a
  -- R258
  | cp_a_b
  | cp_a_c
  | cp_a_d
  | cp_a_e
  | cp_a_h
  | cp_a_l
  | cp_a_atHL
  | cp_a_a
  -- R259
  | inc_b
  | inc_c
  | inc_d
  | inc_e
  | inc_h
  | inc_l
  | inc_a
  -- R260
  | inc_atHL
  -- R261
  | dec_b
  | dec_c
  | dec_d
  | dec_e
  | dec_h
  | dec_l
  | dec_a
  -- R262
  | dec_atHL
  -- R263
  | daa
  -- R264
  | cpl
  -- R265
  | scf
  -- R266
  | ccf
  -- R301
  | inc_bc
  | inc_de
  | inc_hl
  | inc_sp
  -- R302
  | dec_bc
  | dec_de
  | dec_hl
  | dec_sp
  -- R303
  | add_hl_bc
  | add_hl_de
  | add_hl_hl
  | add_hl_sp
  -- R330
  | rlca
  -- R331
  | rrca
  -- R332
  | rla
  -- R333
  | rra
  -- R335
  | rlc_b
  | rlc_c
  | rlc_d
  | rlc_e
  | rlc_h
  | rlc_l
  | rlc_atHL
  | rlc_a
  -- R336
  | rrc_b
  | rrc_c
  | rrc_d
  | rrc_e
  | rrc_h
  | rrc_l
  | rrc_atHL
  | rrc_a
  -- R337
  | rl_b
  | rl_c
  | rl_d
  | rl_e
  | rl_h
  | rl_l
  | rl_atHL
  | rl_a
  -- R338
  | rr_b
  | rr_c
  | rr_d
  | rr_e
  | rr_h
  | rr_l
  | rr_atHL
  | rr_a
  -- R339
  | sla_b
  | sla_c
  | sla_d
  | sla_e
  | sla_h
  | sla_l
  | sla_atHL
  | sla_a
  -- R340
  | sra_b
  | sra_c
  | sra_d
  | sra_e
  | sra_h
  | sra_l
  | sra_atHL
  | sra_a
  -- R341
  | swap_b
  | swap_c
  | swap_d
  | swap_e
  | swap_h
  | swap_l
  | swap_atHL
  | swap_a
  -- R342
  | srl_b
  | srl_c
  | srl_d
  | srl_e
  | srl_h
  | srl_l
  | srl_atHL
  | srl_a
  -- R343
  | bit_0_b
  | bit_0_c
  | bit_0_d
  | bit_0_e
  | bit_0_h
  | bit_0_l
  | bit_0_atHL
  | bit_0_a
  | bit_1_b
  | bit_1_c
  | bit_1_d
  | bit_1_e
  | bit_1_h
  | bit_1_l
  | bit_1_atHL
  | bit_1_a
  | bit_2_b
  | bit_2_c
  | bit_2_d
  | bit_2_e
  | bit_2_h
  | bit_2_l
  | bit_2_atHL
  | bit_2_a
  | bit_3_b
  | bit_3_c
  | bit_3_d
  | bit_3_e
  | bit_3_h
  | bit_3_l
  | bit_3_atHL
  | bit_3_a
  | bit_4_b
  | bit_4_c
  | bit_4_d
  | bit_4_e
  | bit_4_h
  | bit_4_l
  | bit_4_atHL
  | bit_4_a
  | bit_5_b
  | bit_5_c
  | bit_5_d
  | bit_5_e
  | bit_5_h
  | bit_5_l
  | bit_5_atHL
  | bit_5_a
  | bit_6_b
  | bit_6_c
  | bit_6_d
  | bit_6_e
  | bit_6_h
  | bit_6_l
  | bit_6_atHL
  | bit_6_a
  | bit_7_b
  | bit_7_c
  | bit_7_d
  | bit_7_e
  | bit_7_h
  | bit_7_l
  | bit_7_atHL
  | bit_7_a
  -- R344
  | res_0_b
  | res_0_c
  | res_0_d
  | res_0_e
  | res_0_h
  | res_0_l
  | res_0_atHL
  | res_0_a
  | res_1_b
  | res_1_c
  | res_1_d
  | res_1_e
  | res_1_h
  | res_1_l
  | res_1_atHL
  | res_1_a
  | res_2_b
  | res_2_c
  | res_2_d
  | res_2_e
  | res_2_h
  | res_2_l
  | res_2_atHL
  | res_2_a
  | res_3_b
  | res_3_c
  | res_3_d
  | res_3_e
  | res_3_h
  | res_3_l
  | res_3_atHL
  | res_3_a
  | res_4_b
  | res_4_c
  | res_4_d
  | res_4_e
  | res_4_h
  | res_4_l
  | res_4_atHL
  | res_4_a
  | res_5_b
  | res_5_c
  | res_5_d
  | res_5_e
  | res_5_h
  | res_5_l
  | res_5_atHL
  | res_5_a
  | res_6_b
  | res_6_c
  | res_6_d
  | res_6_e
  | res_6_h
  | res_6_l
  | res_6_atHL
  | res_6_a
  | res_7_b
  | res_7_c
  | res_7_d
  | res_7_e
  | res_7_h
  | res_7_l
  | res_7_atHL
  | res_7_a
  -- R345
  | set_0_b
  | set_0_c
  | set_0_d
  | set_0_e
  | set_0_h
  | set_0_l
  | set_0_atHL
  | set_0_a
  | set_1_b
  | set_1_c
  | set_1_d
  | set_1_e
  | set_1_h
  | set_1_l
  | set_1_atHL
  | set_1_a
  | set_2_b
  | set_2_c
  | set_2_d
  | set_2_e
  | set_2_h
  | set_2_l
  | set_2_atHL
  | set_2_a
  | set_3_b
  | set_3_c
  | set_3_d
  | set_3_e
  | set_3_h
  | set_3_l
  | set_3_atHL
  | set_3_a
  | set_4_b
  | set_4_c
  | set_4_d
  | set_4_e
  | set_4_h
  | set_4_l
  | set_4_atHL
  | set_4_a
  | set_5_b
  | set_5_c
  | set_5_d
  | set_5_e
  | set_5_h
  | set_5_l
  | set_5_atHL
  | set_5_a
  | set_6_b
  | set_6_c
  | set_6_d
  | set_6_e
  | set_6_h
  | set_6_l
  | set_6_atHL
  | set_6_a
  | set_7_b
  | set_7_c
  | set_7_d
  | set_7_e
  | set_7_h
  | set_7_l
  | set_7_atHL
  | set_7_a
  -- R383
  | jp_hl
  -- R388
  | rst_00
  | rst_08
  | rst_10
  | rst_18
  | rst_20
  | rst_28
  | rst_30
  | rst_38
  -- R389
  | ret
  -- R390
  | ret_nz
  | ret_z
  | ret_nc
  | ret_c
  -- R391
  | reti
  -- R420
  | nop
  -- R421
  | halt
  -- R422
  | stop
  -- R423
  | di
  -- R424
  | ei
  deriving DecidableEq, Repr

end Sys2Proof
end

