-- ==== Sys2Proof/WellFormed.lean ====
section
/-! DEFINITION. Which terms of `Instr` are instructions that the decoder can give. The types of the operands already admit
exactly the values the encodings have, so two checks remain. -/

namespace Sys2Proof

/-- The eleven illegal base opcodes (R134). -/
def illegalOpcodes : List Byte :=
  [0xD3, 0xDB, 0xDD, 0xE3, 0xE4, 0xEB, 0xEC, 0xED, 0xF4, 0xFC, 0xFD]

/-- An illegal marker has one of the eleven bytes of R134. The escape is an entry of the base table and no instruction of
its own: it and its second byte are one instruction, the prefixed one (R425; log entry 11). Every other term is
well-formed, whatever its operands. -/
def Instr.wellFormed : Instr → Bool
  | .illegal op => decide (op ∈ illegalOpcodes)
  | .prefix_cb _ => false
  | _ => true

end Sys2Proof
end

