-- ==== Sys2Proof/Decode.lean ====
section
/-! DEFINITION. The decoder and, after it, the encoder (30_encoding.md), with the helpers that split, join and extend bytes
and words (R12, R14). The two opcode maps stand row by row as R132 and R133 print them. -/

namespace Sys2Proof

/-! ### Bytes and words -/

/-- `concat(hi, lo)` (R12): `hi * 256 + lo`. -/
def concat (hi lo : Byte) : Word := hi ++ lo

/-- The high byte `v[15:8]` of a word (R12). -/
def hiByte (v : Word) : Byte := v.extractLsb' 8 8

/-- The low byte `v[7:0]` of a word (R12). -/
def loByte (v : Word) : Byte := v.extractLsb' 0 8

/-- `zext_16(b)` (R14). -/
def zext16 (b : Byte) : Word := b.zeroExtend 16

/-- `sext_16(b)` (R14): the two's-complement widening of a signed byte. -/
def sext16 (b : Byte) : Word := b.signExtend 16

/-! ### Formats and lengths -/

/-- The four formats of R120. -/
inductive Format where
  | op
  | opImm8
  | opImm16
  | prefixed
  deriving DecidableEq, Repr

/-- The length in bytes of a format (R120). -/
def Format.length : Format → Nat
  | .op => 1
  | .opImm8 => 2
  | .opImm16 => 3
  | .prefixed => 2

/-- The base opcodes of format op_imm16 (R136, the `length` field of opcode_table.json). -/
def imm16Opcodes : List Byte :=
  [0x01, 0x08, 0x11, 0x21, 0x31, 0xC2, 0xC3, 0xC4, 0xCA, 0xCC, 0xCD, 0xD2, 0xD4,
   0xDA, 0xDC, 0xEA, 0xFA]

/-- The base opcodes of format op_imm8 (R136), without STOP. -/
def imm8Opcodes : List Byte :=
  [0x06, 0x0E, 0x16, 0x18, 0x1E, 0x20, 0x26, 0x28, 0x2E, 0x30, 0x36, 0x38, 0x3E,
   0xC6, 0xCE, 0xD6, 0xDE, 0xE0, 0xE6, 0xE8, 0xEE, 0xF0, 0xF6, 0xF8, 0xFE]

/-- The format of a base opcode (R120, R136): the first byte decides it. STOP has `STOP_LENGTH` bytes. -/
def instrFormat (p : StopLength) (op : Byte) : Format :=
  if op = 0xCB then .prefixed
  else if op = 0x10 then (match p with | .one => .op | .two => .opImm8)
  else if op ∈ imm16Opcodes then .opImm16
  else if op ∈ imm8Opcodes then .opImm8
  else .op

/-! ### The base opcode map (R132)

`n` is the first byte after the opcode, as an immediate `n8`, `e8` or `a8` or as the byte after the escape; `w` is the
little-endian word of the two bytes after the opcode, as `n16` or `a16` (R125). -/

/-- Row 0x of the base opcode map (R132). -/
def baseRow0 (n : Byte) (w : Word) : List Instr :=
  [.nop, .ld_bc_n16 w, .ld_atBC_a, .inc_bc,
   .inc_b, .dec_b, .ld_b_n8 n, .rlca,
   .ld_atA16_sp w, .add_hl_bc, .ld_a_atBC, .dec_bc,
   .inc_c, .dec_c, .ld_c_n8 n, .rrca]

/-- Row 1x of the base opcode map (R132). -/
def baseRow1 (n : Byte) (w : Word) : List Instr :=
  [.stop, .ld_de_n16 w, .ld_atDE_a, .inc_de,
   .inc_d, .dec_d, .ld_d_n8 n, .rla,
   .jr_e8 n, .add_hl_de, .ld_a_atDE, .dec_de,
   .inc_e, .dec_e, .ld_e_n8 n, .rra]

/-- Row 2x of the base opcode map (R132). -/
def baseRow2 (n : Byte) (w : Word) : List Instr :=
  [.jr_nz_e8 n, .ld_hl_n16 w, .ld_atHLInc_a, .inc_hl,
   .inc_h, .dec_h, .ld_h_n8 n, .daa,
   .jr_z_e8 n, .add_hl_hl, .ld_a_atHLInc, .dec_hl,
   .inc_l, .dec_l, .ld_l_n8 n, .cpl]

/-- Row 3x of the base opcode map (R132). -/
def baseRow3 (n : Byte) (w : Word) : List Instr :=
  [.jr_nc_e8 n, .ld_sp_n16 w, .ld_atHLDec_a, .inc_sp,
   .inc_atHL, .dec_atHL, .ld_atHL_n8 n, .scf,
   .jr_c_e8 n, .add_hl_sp, .ld_a_atHLDec, .dec_sp,
   .inc_a, .dec_a, .ld_a_n8 n, .ccf]

/-- Row 4x of the base opcode map (R132). -/
def baseRow4 (_n : Byte) (_w : Word) : List Instr :=
  [.ld_b_b, .ld_b_c, .ld_b_d, .ld_b_e,
   .ld_b_h, .ld_b_l, .ld_b_atHL, .ld_b_a,
   .ld_c_b, .ld_c_c, .ld_c_d, .ld_c_e,
   .ld_c_h, .ld_c_l, .ld_c_atHL, .ld_c_a]

/-- Row 5x of the base opcode map (R132). -/
def baseRow5 (_n : Byte) (_w : Word) : List Instr :=
  [.ld_d_b, .ld_d_c, .ld_d_d, .ld_d_e,
   .ld_d_h, .ld_d_l, .ld_d_atHL, .ld_d_a,
   .ld_e_b, .ld_e_c, .ld_e_d, .ld_e_e,
   .ld_e_h, .ld_e_l, .ld_e_atHL, .ld_e_a]

/-- Row 6x of the base opcode map (R132). -/
def baseRow6 (_n : Byte) (_w : Word) : List Instr :=
  [.ld_h_b, .ld_h_c, .ld_h_d, .ld_h_e,
   .ld_h_h, .ld_h_l, .ld_h_atHL, .ld_h_a,
   .ld_l_b, .ld_l_c, .ld_l_d, .ld_l_e,
   .ld_l_h, .ld_l_l, .ld_l_atHL, .ld_l_a]

/-- Row 7x of the base opcode map (R132). -/
def baseRow7 (_n : Byte) (_w : Word) : List Instr :=
  [.ld_atHL_b, .ld_atHL_c, .ld_atHL_d, .ld_atHL_e,
   .ld_atHL_h, .ld_atHL_l, .halt, .ld_atHL_a,
   .ld_a_b, .ld_a_c, .ld_a_d, .ld_a_e,
   .ld_a_h, .ld_a_l, .ld_a_atHL, .ld_a_a]

/-- Row 8x of the base opcode map (R132). -/
def baseRow8 (_n : Byte) (_w : Word) : List Instr :=
  [.add_a_b, .add_a_c, .add_a_d, .add_a_e,
   .add_a_h, .add_a_l, .add_a_atHL, .add_a_a,
   .adc_a_b, .adc_a_c, .adc_a_d, .adc_a_e,
   .adc_a_h, .adc_a_l, .adc_a_atHL, .adc_a_a]

/-- Row 9x of the base opcode map (R132). -/
def baseRow9 (_n : Byte) (_w : Word) : List Instr :=
  [.sub_a_b, .sub_a_c, .sub_a_d, .sub_a_e,
   .sub_a_h, .sub_a_l, .sub_a_atHL, .sub_a_a,
   .sbc_a_b, .sbc_a_c, .sbc_a_d, .sbc_a_e,
   .sbc_a_h, .sbc_a_l, .sbc_a_atHL, .sbc_a_a]

/-- Row Ax of the base opcode map (R132). -/
def baseRowA (_n : Byte) (_w : Word) : List Instr :=
  [.and_a_b, .and_a_c, .and_a_d, .and_a_e,
   .and_a_h, .and_a_l, .and_a_atHL, .and_a_a,
   .xor_a_b, .xor_a_c, .xor_a_d, .xor_a_e,
   .xor_a_h, .xor_a_l, .xor_a_atHL, .xor_a_a]

/-- Row Bx of the base opcode map (R132). -/
def baseRowB (_n : Byte) (_w : Word) : List Instr :=
  [.or_a_b, .or_a_c, .or_a_d, .or_a_e,
   .or_a_h, .or_a_l, .or_a_atHL, .or_a_a,
   .cp_a_b, .cp_a_c, .cp_a_d, .cp_a_e,
   .cp_a_h, .cp_a_l, .cp_a_atHL, .cp_a_a]

/-- Row Cx of the base opcode map (R132). -/
def baseRowC (n : Byte) (w : Word) : List Instr :=
  [.ret_nz, .pop_bc, .jp_nz_n16 w, .jp_n16 w,
   .call_nz_n16 w, .push_bc, .add_a_n8 n, .rst_00,
   .ret_z, .ret, .jp_z_n16 w, .prefix_cb n,
   .call_z_n16 w, .call_n16 w, .adc_a_n8 n, .rst_08]

/-- Row Dx of the base opcode map (R132). -/
def baseRowD (n : Byte) (w : Word) : List Instr :=
  [.ret_nc, .pop_de, .jp_nc_n16 w, .illegal 0xD3,
   .call_nc_n16 w, .push_de, .sub_a_n8 n, .rst_10,
   .ret_c, .reti, .jp_c_n16 w, .illegal 0xDB,
   .call_c_n16 w, .illegal 0xDD, .sbc_a_n8 n, .rst_18]

/-- Row Ex of the base opcode map (R132). -/
def baseRowE (n : Byte) (w : Word) : List Instr :=
  [.ldh_atA8_a n, .pop_hl, .ld_atC_a, .illegal 0xE3,
   .illegal 0xE4, .push_hl, .and_a_n8 n, .rst_20,
   .add_sp_e8 n, .jp_hl, .ld_atA16_a w, .illegal 0xEB,
   .illegal 0xEC, .illegal 0xED, .xor_a_n8 n, .rst_28]

/-- Row Fx of the base opcode map (R132). -/
def baseRowF (n : Byte) (w : Word) : List Instr :=
  [.ldh_a_atA8 n, .pop_af, .ld_a_atC, .di,
   .illegal 0xF4, .push_af, .or_a_n8 n, .rst_30,
   .ld_hl_spPlusE8 n, .ld_sp_hl, .ld_a_atA16 w, .ei,
   .illegal 0xFC, .illegal 0xFD, .cp_a_n8 n, .rst_38]

/-- The base opcode map (R132), by the high nibble of the opcode: 16 rows of 16 entries, the illegal markers among them
(R134). -/
def baseRow (hi : BitVec 4) (n : Byte) (w : Word) : List Instr :=
  match hi.toNat with
  | 0 => baseRow0 n w
  | 1 => baseRow1 n w
  | 2 => baseRow2 n w
  | 3 => baseRow3 n w
  | 4 => baseRow4 n w
  | 5 => baseRow5 n w
  | 6 => baseRow6 n w
  | 7 => baseRow7 n w
  | 8 => baseRow8 n w
  | 9 => baseRow9 n w
  | 10 => baseRowA n w
  | 11 => baseRowB n w
  | 12 => baseRowC n w
  | 13 => baseRowD n w
  | 14 => baseRowE n w
  | _ => baseRowF n w

theorem baseRow_length (hi : BitVec 4) (n : Byte) (w : Word) : (baseRow hi n w).length = 16 := by
  unfold baseRow
  split <;> rfl

/-- `BaseTable[op]` with its immediate bytes, the low one first (R131, R140): the row of the high nibble, the column of the
low nibble. -/
def baseInstr (op lo hi : Byte) : Instr :=
  (baseRow (op.extractLsb' 4 4) lo (concat hi lo))[(op.extractLsb' 0 4).toNat]'(by
    rw [baseRow_length]
    exact (op.extractLsb' 0 4).isLt)

/-! ### The prefixed opcode map (R133) -/

/-- Row 0x of the prefixed opcode map (R133). -/
def prefixedRow0 : List Instr :=
  [.rlc_b, .rlc_c, .rlc_d, .rlc_e,
   .rlc_h, .rlc_l, .rlc_atHL, .rlc_a,
   .rrc_b, .rrc_c, .rrc_d, .rrc_e,
   .rrc_h, .rrc_l, .rrc_atHL, .rrc_a]

/-- Row 1x of the prefixed opcode map (R133). -/
def prefixedRow1 : List Instr :=
  [.rl_b, .rl_c, .rl_d, .rl_e,
   .rl_h, .rl_l, .rl_atHL, .rl_a,
   .rr_b, .rr_c, .rr_d, .rr_e,
   .rr_h, .rr_l, .rr_atHL, .rr_a]

/-- Row 2x of the prefixed opcode map (R133). -/
def prefixedRow2 : List Instr :=
  [.sla_b, .sla_c, .sla_d, .sla_e,
   .sla_h, .sla_l, .sla_atHL, .sla_a,
   .sra_b, .sra_c, .sra_d, .sra_e,
   .sra_h, .sra_l, .sra_atHL, .sra_a]

/-- Row 3x of the prefixed opcode map (R133). -/
def prefixedRow3 : List Instr :=
  [.swap_b, .swap_c, .swap_d, .swap_e,
   .swap_h, .swap_l, .swap_atHL, .swap_a,
   .srl_b, .srl_c, .srl_d, .srl_e,
   .srl_h, .srl_l, .srl_atHL, .srl_a]

/-- Row 4x of the prefixed opcode map (R133). -/
def prefixedRow4 : List Instr :=
  [.bit_0_b, .bit_0_c, .bit_0_d, .bit_0_e,
   .bit_0_h, .bit_0_l, .bit_0_atHL, .bit_0_a,
   .bit_1_b, .bit_1_c, .bit_1_d, .bit_1_e,
   .bit_1_h, .bit_1_l, .bit_1_atHL, .bit_1_a]

/-- Row 5x of the prefixed opcode map (R133). -/
def prefixedRow5 : List Instr :=
  [.bit_2_b, .bit_2_c, .bit_2_d, .bit_2_e,
   .bit_2_h, .bit_2_l, .bit_2_atHL, .bit_2_a,
   .bit_3_b, .bit_3_c, .bit_3_d, .bit_3_e,
   .bit_3_h, .bit_3_l, .bit_3_atHL, .bit_3_a]

/-- Row 6x of the prefixed opcode map (R133). -/
def prefixedRow6 : List Instr :=
  [.bit_4_b, .bit_4_c, .bit_4_d, .bit_4_e,
   .bit_4_h, .bit_4_l, .bit_4_atHL, .bit_4_a,
   .bit_5_b, .bit_5_c, .bit_5_d, .bit_5_e,
   .bit_5_h, .bit_5_l, .bit_5_atHL, .bit_5_a]

/-- Row 7x of the prefixed opcode map (R133). -/
def prefixedRow7 : List Instr :=
  [.bit_6_b, .bit_6_c, .bit_6_d, .bit_6_e,
   .bit_6_h, .bit_6_l, .bit_6_atHL, .bit_6_a,
   .bit_7_b, .bit_7_c, .bit_7_d, .bit_7_e,
   .bit_7_h, .bit_7_l, .bit_7_atHL, .bit_7_a]

/-- Row 8x of the prefixed opcode map (R133). -/
def prefixedRow8 : List Instr :=
  [.res_0_b, .res_0_c, .res_0_d, .res_0_e,
   .res_0_h, .res_0_l, .res_0_atHL, .res_0_a,
   .res_1_b, .res_1_c, .res_1_d, .res_1_e,
   .res_1_h, .res_1_l, .res_1_atHL, .res_1_a]

/-- Row 9x of the prefixed opcode map (R133). -/
def prefixedRow9 : List Instr :=
  [.res_2_b, .res_2_c, .res_2_d, .res_2_e,
   .res_2_h, .res_2_l, .res_2_atHL, .res_2_a,
   .res_3_b, .res_3_c, .res_3_d, .res_3_e,
   .res_3_h, .res_3_l, .res_3_atHL, .res_3_a]

/-- Row Ax of the prefixed opcode map (R133). -/
def prefixedRowA : List Instr :=
  [.res_4_b, .res_4_c, .res_4_d, .res_4_e,
   .res_4_h, .res_4_l, .res_4_atHL, .res_4_a,
   .res_5_b, .res_5_c, .res_5_d, .res_5_e,
   .res_5_h, .res_5_l, .res_5_atHL, .res_5_a]

/-- Row Bx of the prefixed opcode map (R133). -/
def prefixedRowB : List Instr :=
  [.res_6_b, .res_6_c, .res_6_d, .res_6_e,
   .res_6_h, .res_6_l, .res_6_atHL, .res_6_a,
   .res_7_b, .res_7_c, .res_7_d, .res_7_e,
   .res_7_h, .res_7_l, .res_7_atHL, .res_7_a]

/-- Row Cx of the prefixed opcode map (R133). -/
def prefixedRowC : List Instr :=
  [.set_0_b, .set_0_c, .set_0_d, .set_0_e,
   .set_0_h, .set_0_l, .set_0_atHL, .set_0_a,
   .set_1_b, .set_1_c, .set_1_d, .set_1_e,
   .set_1_h, .set_1_l, .set_1_atHL, .set_1_a]

/-- Row Dx of the prefixed opcode map (R133). -/
def prefixedRowD : List Instr :=
  [.set_2_b, .set_2_c, .set_2_d, .set_2_e,
   .set_2_h, .set_2_l, .set_2_atHL, .set_2_a,
   .set_3_b, .set_3_c, .set_3_d, .set_3_e,
   .set_3_h, .set_3_l, .set_3_atHL, .set_3_a]

/-- Row Ex of the prefixed opcode map (R133). -/
def prefixedRowE : List Instr :=
  [.set_4_b, .set_4_c, .set_4_d, .set_4_e,
   .set_4_h, .set_4_l, .set_4_atHL, .set_4_a,
   .set_5_b, .set_5_c, .set_5_d, .set_5_e,
   .set_5_h, .set_5_l, .set_5_atHL, .set_5_a]

/-- Row Fx of the prefixed opcode map (R133). -/
def prefixedRowF : List Instr :=
  [.set_6_b, .set_6_c, .set_6_d, .set_6_e,
   .set_6_h, .set_6_l, .set_6_atHL, .set_6_a,
   .set_7_b, .set_7_c, .set_7_d, .set_7_e,
   .set_7_h, .set_7_l, .set_7_atHL, .set_7_a]

/-- The prefixed opcode map (R133), by the high nibble of the second byte: 16 rows of 16 entries, none illegal (R129). -/
def prefixedRow (hi : BitVec 4) : List Instr :=
  match hi.toNat with
  | 0 => prefixedRow0
  | 1 => prefixedRow1
  | 2 => prefixedRow2
  | 3 => prefixedRow3
  | 4 => prefixedRow4
  | 5 => prefixedRow5
  | 6 => prefixedRow6
  | 7 => prefixedRow7
  | 8 => prefixedRow8
  | 9 => prefixedRow9
  | 10 => prefixedRowA
  | 11 => prefixedRowB
  | 12 => prefixedRowC
  | 13 => prefixedRowD
  | 14 => prefixedRowE
  | _ => prefixedRowF

theorem prefixedRow_length (hi : BitVec 4) : (prefixedRow hi).length = 16 := by
  unfold prefixedRow
  split <;> rfl

/-- `PrefixedTable[b]` (R140): the row of the high nibble, the column of the low nibble. -/
def prefixedInstr (b : Byte) : Instr :=
  (prefixedRow (b.extractLsb' 4 4))[(b.extractLsb' 0 4).toNat]'(by
    rw [prefixedRow_length]
    exact (b.extractLsb' 0 4).isLt)

/-! ### The decoder -/

/-- Why a byte sequence is no instruction. Every opcode byte and every prefixed byte has an entry (R135), so the only
reason is that bytes are missing. -/
inductive DecodeError where
  | noOpcode
  | missingImmediate (op : Byte)
  | missingPrefixedByte
  deriving DecidableEq, Repr

/-- Decoding the front of a byte sequence: the instruction and the bytes after it, or the reason there is none. -/
def decode (p : StopLength) (bytes : List Byte) : Except DecodeError (Instr × List Byte) :=
  match bytes with
  | [] => .error .noOpcode
  | op :: rest =>
    match instrFormat p op, rest with
    | .op, _ => .ok (baseInstr op 0 0, rest)
    | .opImm8, n :: rest' => .ok (baseInstr op n 0, rest')
    | .opImm8, [] => .error (.missingImmediate op)
    | .opImm16, lo :: hi :: rest' => .ok (baseInstr op lo hi, rest')
    | .opImm16, [_] => .error (.missingImmediate op)
    | .opImm16, [] => .error (.missingImmediate op)
    | .prefixed, b :: rest' => .ok (prefixedInstr b, rest')
    | .prefixed, [] => .error .missingPrefixedByte

/-- The bytes, first one first, of an instruction whose bits are numbered as opcode_table.json numbers them: the opcode
byte lowest, but a 16-bit row of the prefixed table has the escape byte in bits 15 to 8 (log entry 10). -/
def tableBytes (nbits w : Nat) : List Byte :=
  let b0 := BitVec.ofNat 8 w
  let b1 := BitVec.ofNat 8 (w / 256)
  let b2 := BitVec.ofNat 8 (w / 65536)
  if nbits = 16 ∧ b1 = 0xCB then [b1, b0, 0] else [b0, b1, b2]

/-- The instruction that the decoder reads from a row of opcode_table.json, its immediates zero (log entry 10). The row of the
escape is the entry PREFIX CB of the base table: its word alone is no instruction (log entry 11). -/
def decodeTableWord (nbits w : Nat) : Option Instr :=
  if nbits ≤ 8 ∧ BitVec.ofNat 8 w = 0xCB then some (baseInstr 0xCB 0 0)
  else
    match decode .two (tableBytes nbits w) with
    | .ok (i, _) => some i
    | .error _ => none

/-! ### The encoder -/

/-- The bytes of an instruction, in memory order (R120, R125): the opcode of R132 or the escape and the opcode of R133,
then the immediate, low byte first. STOP's ignored byte is written as 0x00 (log entry 13). -/
def encode (p : StopLength) (i : Instr) : List Byte :=
  match i with
  | .ld_b_b => [0x40]
  | .ld_b_c => [0x41]
  | .ld_b_d => [0x42]
  | .ld_b_e => [0x43]
  | .ld_b_h => [0x44]
  | .ld_b_l => [0x45]
  | .ld_b_a => [0x47]
  | .ld_c_b => [0x48]
  | .ld_c_c => [0x49]
  | .ld_c_d => [0x4A]
  | .ld_c_e => [0x4B]
  | .ld_c_h => [0x4C]
  | .ld_c_l => [0x4D]
  | .ld_c_a => [0x4F]
  | .ld_d_b => [0x50]
  | .ld_d_c => [0x51]
  | .ld_d_d => [0x52]
  | .ld_d_e => [0x53]
  | .ld_d_h => [0x54]
  | .ld_d_l => [0x55]
  | .ld_d_a => [0x57]
  | .ld_e_b => [0x58]
  | .ld_e_c => [0x59]
  | .ld_e_d => [0x5A]
  | .ld_e_e => [0x5B]
  | .ld_e_h => [0x5C]
  | .ld_e_l => [0x5D]
  | .ld_e_a => [0x5F]
  | .ld_h_b => [0x60]
  | .ld_h_c => [0x61]
  | .ld_h_d => [0x62]
  | .ld_h_e => [0x63]
  | .ld_h_h => [0x64]
  | .ld_h_l => [0x65]
  | .ld_h_a => [0x67]
  | .ld_l_b => [0x68]
  | .ld_l_c => [0x69]
  | .ld_l_d => [0x6A]
  | .ld_l_e => [0x6B]
  | .ld_l_h => [0x6C]
  | .ld_l_l => [0x6D]
  | .ld_l_a => [0x6F]
  | .ld_a_b => [0x78]
  | .ld_a_c => [0x79]
  | .ld_a_d => [0x7A]
  | .ld_a_e => [0x7B]
  | .ld_a_h => [0x7C]
  | .ld_a_l => [0x7D]
  | .ld_a_a => [0x7F]
  | .ld_b_atHL => [0x46]
  | .ld_c_atHL => [0x4E]
  | .ld_d_atHL => [0x56]
  | .ld_e_atHL => [0x5E]
  | .ld_h_atHL => [0x66]
  | .ld_l_atHL => [0x6E]
  | .ld_a_atHL => [0x7E]
  | .ld_atHL_b => [0x70]
  | .ld_atHL_c => [0x71]
  | .ld_atHL_d => [0x72]
  | .ld_atHL_e => [0x73]
  | .ld_atHL_h => [0x74]
  | .ld_atHL_l => [0x75]
  | .ld_atHL_a => [0x77]
  | .ld_b_n8 n => [0x06, n]
  | .ld_c_n8 n => [0x0E, n]
  | .ld_d_n8 n => [0x16, n]
  | .ld_e_n8 n => [0x1E, n]
  | .ld_h_n8 n => [0x26, n]
  | .ld_l_n8 n => [0x2E, n]
  | .ld_a_n8 n => [0x3E, n]
  | .ld_atHL_n8 n => [0x36, n]
  | .ld_a_atBC => [0x0A]
  | .ld_a_atDE => [0x1A]
  | .ld_atBC_a => [0x02]
  | .ld_atDE_a => [0x12]
  | .ld_a_atHLInc => [0x2A]
  | .ld_a_atHLDec => [0x3A]
  | .ld_atHLInc_a => [0x22]
  | .ld_atHLDec_a => [0x32]
  | .ld_a_atA16 addr => [0xFA, loByte addr, hiByte addr]
  | .ld_atA16_a addr => [0xEA, loByte addr, hiByte addr]
  | .ldh_a_atA8 o => [0xF0, o]
  | .ldh_atA8_a o => [0xE0, o]
  | .ld_a_atC => [0xF2]
  | .ld_atC_a => [0xE2]
  | .ld_bc_n16 n => [0x01, loByte n, hiByte n]
  | .ld_de_n16 n => [0x11, loByte n, hiByte n]
  | .ld_hl_n16 n => [0x21, loByte n, hiByte n]
  | .ld_sp_n16 n => [0x31, loByte n, hiByte n]
  | .ld_atA16_sp addr => [0x08, loByte addr, hiByte addr]
  | .ld_sp_hl => [0xF9]
  | .ld_hl_spPlusE8 e => [0xF8, e]
  | .push_bc => [0xC5]
  | .push_de => [0xD5]
  | .push_hl => [0xE5]
  | .push_af => [0xF5]
  | .pop_bc => [0xC1]
  | .pop_de => [0xD1]
  | .pop_hl => [0xE1]
  | .pop_af => [0xF1]
  | .add_a_b => [0x80]
  | .add_a_c => [0x81]
  | .add_a_d => [0x82]
  | .add_a_e => [0x83]
  | .add_a_h => [0x84]
  | .add_a_l => [0x85]
  | .add_a_atHL => [0x86]
  | .add_a_a => [0x87]
  | .add_a_n8 n => [0xC6, n]
  | .adc_a_b => [0x88]
  | .adc_a_c => [0x89]
  | .adc_a_d => [0x8A]
  | .adc_a_e => [0x8B]
  | .adc_a_h => [0x8C]
  | .adc_a_l => [0x8D]
  | .adc_a_atHL => [0x8E]
  | .adc_a_a => [0x8F]
  | .adc_a_n8 n => [0xCE, n]
  | .sub_a_b => [0x90]
  | .sub_a_c => [0x91]
  | .sub_a_d => [0x92]
  | .sub_a_e => [0x93]
  | .sub_a_h => [0x94]
  | .sub_a_l => [0x95]
  | .sub_a_atHL => [0x96]
  | .sub_a_a => [0x97]
  | .sub_a_n8 n => [0xD6, n]
  | .sbc_a_b => [0x98]
  | .sbc_a_c => [0x99]
  | .sbc_a_d => [0x9A]
  | .sbc_a_e => [0x9B]
  | .sbc_a_h => [0x9C]
  | .sbc_a_l => [0x9D]
  | .sbc_a_atHL => [0x9E]
  | .sbc_a_a => [0x9F]
  | .sbc_a_n8 n => [0xDE, n]
  | .and_a_b => [0xA0]
  | .and_a_c => [0xA1]
  | .and_a_d => [0xA2]
  | .and_a_e => [0xA3]
  | .and_a_h => [0xA4]
  | .and_a_l => [0xA5]
  | .and_a_atHL => [0xA6]
  | .and_a_a => [0xA7]
  | .and_a_n8 n => [0xE6, n]
  | .xor_a_b => [0xA8]
  | .xor_a_c => [0xA9]
  | .xor_a_d => [0xAA]
  | .xor_a_e => [0xAB]
  | .xor_a_h => [0xAC]
  | .xor_a_l => [0xAD]
  | .xor_a_atHL => [0xAE]
  | .xor_a_a => [0xAF]
  | .xor_a_n8 n => [0xEE, n]
  | .or_a_b => [0xB0]
  | .or_a_c => [0xB1]
  | .or_a_d => [0xB2]
  | .or_a_e => [0xB3]
  | .or_a_h => [0xB4]
  | .or_a_l => [0xB5]
  | .or_a_atHL => [0xB6]
  | .or_a_a => [0xB7]
  | .or_a_n8 n => [0xF6, n]
  | .cp_a_b => [0xB8]
  | .cp_a_c => [0xB9]
  | .cp_a_d => [0xBA]
  | .cp_a_e => [0xBB]
  | .cp_a_h => [0xBC]
  | .cp_a_l => [0xBD]
  | .cp_a_atHL => [0xBE]
  | .cp_a_a => [0xBF]
  | .cp_a_n8 n => [0xFE, n]
  | .inc_b => [0x04]
  | .inc_c => [0x0C]
  | .inc_d => [0x14]
  | .inc_e => [0x1C]
  | .inc_h => [0x24]
  | .inc_l => [0x2C]
  | .inc_a => [0x3C]
  | .inc_atHL => [0x34]
  | .dec_b => [0x05]
  | .dec_c => [0x0D]
  | .dec_d => [0x15]
  | .dec_e => [0x1D]
  | .dec_h => [0x25]
  | .dec_l => [0x2D]
  | .dec_a => [0x3D]
  | .dec_atHL => [0x35]
  | .daa => [0x27]
  | .cpl => [0x2F]
  | .scf => [0x37]
  | .ccf => [0x3F]
  | .inc_bc => [0x03]
  | .inc_de => [0x13]
  | .inc_hl => [0x23]
  | .inc_sp => [0x33]
  | .dec_bc => [0x0B]
  | .dec_de => [0x1B]
  | .dec_hl => [0x2B]
  | .dec_sp => [0x3B]
  | .add_hl_bc => [0x09]
  | .add_hl_de => [0x19]
  | .add_hl_hl => [0x29]
  | .add_hl_sp => [0x39]
  | .add_sp_e8 e => [0xE8, e]
  | .rlca => [0x07]
  | .rrca => [0x0F]
  | .rla => [0x17]
  | .rra => [0x1F]
  | .rlc_b => [0xCB, 0x00]
  | .rlc_c => [0xCB, 0x01]
  | .rlc_d => [0xCB, 0x02]
  | .rlc_e => [0xCB, 0x03]
  | .rlc_h => [0xCB, 0x04]
  | .rlc_l => [0xCB, 0x05]
  | .rlc_atHL => [0xCB, 0x06]
  | .rlc_a => [0xCB, 0x07]
  | .rrc_b => [0xCB, 0x08]
  | .rrc_c => [0xCB, 0x09]
  | .rrc_d => [0xCB, 0x0A]
  | .rrc_e => [0xCB, 0x0B]
  | .rrc_h => [0xCB, 0x0C]
  | .rrc_l => [0xCB, 0x0D]
  | .rrc_atHL => [0xCB, 0x0E]
  | .rrc_a => [0xCB, 0x0F]
  | .rl_b => [0xCB, 0x10]
  | .rl_c => [0xCB, 0x11]
  | .rl_d => [0xCB, 0x12]
  | .rl_e => [0xCB, 0x13]
  | .rl_h => [0xCB, 0x14]
  | .rl_l => [0xCB, 0x15]
  | .rl_atHL => [0xCB, 0x16]
  | .rl_a => [0xCB, 0x17]
  | .rr_b => [0xCB, 0x18]
  | .rr_c => [0xCB, 0x19]
  | .rr_d => [0xCB, 0x1A]
  | .rr_e => [0xCB, 0x1B]
  | .rr_h => [0xCB, 0x1C]
  | .rr_l => [0xCB, 0x1D]
  | .rr_atHL => [0xCB, 0x1E]
  | .rr_a => [0xCB, 0x1F]
  | .sla_b => [0xCB, 0x20]
  | .sla_c => [0xCB, 0x21]
  | .sla_d => [0xCB, 0x22]
  | .sla_e => [0xCB, 0x23]
  | .sla_h => [0xCB, 0x24]
  | .sla_l => [0xCB, 0x25]
  | .sla_atHL => [0xCB, 0x26]
  | .sla_a => [0xCB, 0x27]
  | .sra_b => [0xCB, 0x28]
  | .sra_c => [0xCB, 0x29]
  | .sra_d => [0xCB, 0x2A]
  | .sra_e => [0xCB, 0x2B]
  | .sra_h => [0xCB, 0x2C]
  | .sra_l => [0xCB, 0x2D]
  | .sra_atHL => [0xCB, 0x2E]
  | .sra_a => [0xCB, 0x2F]
  | .swap_b => [0xCB, 0x30]
  | .swap_c => [0xCB, 0x31]
  | .swap_d => [0xCB, 0x32]
  | .swap_e => [0xCB, 0x33]
  | .swap_h => [0xCB, 0x34]
  | .swap_l => [0xCB, 0x35]
  | .swap_atHL => [0xCB, 0x36]
  | .swap_a => [0xCB, 0x37]
  | .srl_b => [0xCB, 0x38]
  | .srl_c => [0xCB, 0x39]
  | .srl_d => [0xCB, 0x3A]
  | .srl_e => [0xCB, 0x3B]
  | .srl_h => [0xCB, 0x3C]
  | .srl_l => [0xCB, 0x3D]
  | .srl_atHL => [0xCB, 0x3E]
  | .srl_a => [0xCB, 0x3F]
  | .bit_0_b => [0xCB, 0x40]
  | .bit_0_c => [0xCB, 0x41]
  | .bit_0_d => [0xCB, 0x42]
  | .bit_0_e => [0xCB, 0x43]
  | .bit_0_h => [0xCB, 0x44]
  | .bit_0_l => [0xCB, 0x45]
  | .bit_0_atHL => [0xCB, 0x46]
  | .bit_0_a => [0xCB, 0x47]
  | .bit_1_b => [0xCB, 0x48]
  | .bit_1_c => [0xCB, 0x49]
  | .bit_1_d => [0xCB, 0x4A]
  | .bit_1_e => [0xCB, 0x4B]
  | .bit_1_h => [0xCB, 0x4C]
  | .bit_1_l => [0xCB, 0x4D]
  | .bit_1_atHL => [0xCB, 0x4E]
  | .bit_1_a => [0xCB, 0x4F]
  | .bit_2_b => [0xCB, 0x50]
  | .bit_2_c => [0xCB, 0x51]
  | .bit_2_d => [0xCB, 0x52]
  | .bit_2_e => [0xCB, 0x53]
  | .bit_2_h => [0xCB, 0x54]
  | .bit_2_l => [0xCB, 0x55]
  | .bit_2_atHL => [0xCB, 0x56]
  | .bit_2_a => [0xCB, 0x57]
  | .bit_3_b => [0xCB, 0x58]
  | .bit_3_c => [0xCB, 0x59]
  | .bit_3_d => [0xCB, 0x5A]
  | .bit_3_e => [0xCB, 0x5B]
  | .bit_3_h => [0xCB, 0x5C]
  | .bit_3_l => [0xCB, 0x5D]
  | .bit_3_atHL => [0xCB, 0x5E]
  | .bit_3_a => [0xCB, 0x5F]
  | .bit_4_b => [0xCB, 0x60]
  | .bit_4_c => [0xCB, 0x61]
  | .bit_4_d => [0xCB, 0x62]
  | .bit_4_e => [0xCB, 0x63]
  | .bit_4_h => [0xCB, 0x64]
  | .bit_4_l => [0xCB, 0x65]
  | .bit_4_atHL => [0xCB, 0x66]
  | .bit_4_a => [0xCB, 0x67]
  | .bit_5_b => [0xCB, 0x68]
  | .bit_5_c => [0xCB, 0x69]
  | .bit_5_d => [0xCB, 0x6A]
  | .bit_5_e => [0xCB, 0x6B]
  | .bit_5_h => [0xCB, 0x6C]
  | .bit_5_l => [0xCB, 0x6D]
  | .bit_5_atHL => [0xCB, 0x6E]
  | .bit_5_a => [0xCB, 0x6F]
  | .bit_6_b => [0xCB, 0x70]
  | .bit_6_c => [0xCB, 0x71]
  | .bit_6_d => [0xCB, 0x72]
  | .bit_6_e => [0xCB, 0x73]
  | .bit_6_h => [0xCB, 0x74]
  | .bit_6_l => [0xCB, 0x75]
  | .bit_6_atHL => [0xCB, 0x76]
  | .bit_6_a => [0xCB, 0x77]
  | .bit_7_b => [0xCB, 0x78]
  | .bit_7_c => [0xCB, 0x79]
  | .bit_7_d => [0xCB, 0x7A]
  | .bit_7_e => [0xCB, 0x7B]
  | .bit_7_h => [0xCB, 0x7C]
  | .bit_7_l => [0xCB, 0x7D]
  | .bit_7_atHL => [0xCB, 0x7E]
  | .bit_7_a => [0xCB, 0x7F]
  | .res_0_b => [0xCB, 0x80]
  | .res_0_c => [0xCB, 0x81]
  | .res_0_d => [0xCB, 0x82]
  | .res_0_e => [0xCB, 0x83]
  | .res_0_h => [0xCB, 0x84]
  | .res_0_l => [0xCB, 0x85]
  | .res_0_atHL => [0xCB, 0x86]
  | .res_0_a => [0xCB, 0x87]
  | .res_1_b => [0xCB, 0x88]
  | .res_1_c => [0xCB, 0x89]
  | .res_1_d => [0xCB, 0x8A]
  | .res_1_e => [0xCB, 0x8B]
  | .res_1_h => [0xCB, 0x8C]
  | .res_1_l => [0xCB, 0x8D]
  | .res_1_atHL => [0xCB, 0x8E]
  | .res_1_a => [0xCB, 0x8F]
  | .res_2_b => [0xCB, 0x90]
  | .res_2_c => [0xCB, 0x91]
  | .res_2_d => [0xCB, 0x92]
  | .res_2_e => [0xCB, 0x93]
  | .res_2_h => [0xCB, 0x94]
  | .res_2_l => [0xCB, 0x95]
  | .res_2_atHL => [0xCB, 0x96]
  | .res_2_a => [0xCB, 0x97]
  | .res_3_b => [0xCB, 0x98]
  | .res_3_c => [0xCB, 0x99]
  | .res_3_d => [0xCB, 0x9A]
  | .res_3_e => [0xCB, 0x9B]
  | .res_3_h => [0xCB, 0x9C]
  | .res_3_l => [0xCB, 0x9D]
  | .res_3_atHL => [0xCB, 0x9E]
  | .res_3_a => [0xCB, 0x9F]
  | .res_4_b => [0xCB, 0xA0]
  | .res_4_c => [0xCB, 0xA1]
  | .res_4_d => [0xCB, 0xA2]
  | .res_4_e => [0xCB, 0xA3]
  | .res_4_h => [0xCB, 0xA4]
  | .res_4_l => [0xCB, 0xA5]
  | .res_4_atHL => [0xCB, 0xA6]
  | .res_4_a => [0xCB, 0xA7]
  | .res_5_b => [0xCB, 0xA8]
  | .res_5_c => [0xCB, 0xA9]
  | .res_5_d => [0xCB, 0xAA]
  | .res_5_e => [0xCB, 0xAB]
  | .res_5_h => [0xCB, 0xAC]
  | .res_5_l => [0xCB, 0xAD]
  | .res_5_atHL => [0xCB, 0xAE]
  | .res_5_a => [0xCB, 0xAF]
  | .res_6_b => [0xCB, 0xB0]
  | .res_6_c => [0xCB, 0xB1]
  | .res_6_d => [0xCB, 0xB2]
  | .res_6_e => [0xCB, 0xB3]
  | .res_6_h => [0xCB, 0xB4]
  | .res_6_l => [0xCB, 0xB5]
  | .res_6_atHL => [0xCB, 0xB6]
  | .res_6_a => [0xCB, 0xB7]
  | .res_7_b => [0xCB, 0xB8]
  | .res_7_c => [0xCB, 0xB9]
  | .res_7_d => [0xCB, 0xBA]
  | .res_7_e => [0xCB, 0xBB]
  | .res_7_h => [0xCB, 0xBC]
  | .res_7_l => [0xCB, 0xBD]
  | .res_7_atHL => [0xCB, 0xBE]
  | .res_7_a => [0xCB, 0xBF]
  | .set_0_b => [0xCB, 0xC0]
  | .set_0_c => [0xCB, 0xC1]
  | .set_0_d => [0xCB, 0xC2]
  | .set_0_e => [0xCB, 0xC3]
  | .set_0_h => [0xCB, 0xC4]
  | .set_0_l => [0xCB, 0xC5]
  | .set_0_atHL => [0xCB, 0xC6]
  | .set_0_a => [0xCB, 0xC7]
  | .set_1_b => [0xCB, 0xC8]
  | .set_1_c => [0xCB, 0xC9]
  | .set_1_d => [0xCB, 0xCA]
  | .set_1_e => [0xCB, 0xCB]
  | .set_1_h => [0xCB, 0xCC]
  | .set_1_l => [0xCB, 0xCD]
  | .set_1_atHL => [0xCB, 0xCE]
  | .set_1_a => [0xCB, 0xCF]
  | .set_2_b => [0xCB, 0xD0]
  | .set_2_c => [0xCB, 0xD1]
  | .set_2_d => [0xCB, 0xD2]
  | .set_2_e => [0xCB, 0xD3]
  | .set_2_h => [0xCB, 0xD4]
  | .set_2_l => [0xCB, 0xD5]
  | .set_2_atHL => [0xCB, 0xD6]
  | .set_2_a => [0xCB, 0xD7]
  | .set_3_b => [0xCB, 0xD8]
  | .set_3_c => [0xCB, 0xD9]
  | .set_3_d => [0xCB, 0xDA]
  | .set_3_e => [0xCB, 0xDB]
  | .set_3_h => [0xCB, 0xDC]
  | .set_3_l => [0xCB, 0xDD]
  | .set_3_atHL => [0xCB, 0xDE]
  | .set_3_a => [0xCB, 0xDF]
  | .set_4_b => [0xCB, 0xE0]
  | .set_4_c => [0xCB, 0xE1]
  | .set_4_d => [0xCB, 0xE2]
  | .set_4_e => [0xCB, 0xE3]
  | .set_4_h => [0xCB, 0xE4]
  | .set_4_l => [0xCB, 0xE5]
  | .set_4_atHL => [0xCB, 0xE6]
  | .set_4_a => [0xCB, 0xE7]
  | .set_5_b => [0xCB, 0xE8]
  | .set_5_c => [0xCB, 0xE9]
  | .set_5_d => [0xCB, 0xEA]
  | .set_5_e => [0xCB, 0xEB]
  | .set_5_h => [0xCB, 0xEC]
  | .set_5_l => [0xCB, 0xED]
  | .set_5_atHL => [0xCB, 0xEE]
  | .set_5_a => [0xCB, 0xEF]
  | .set_6_b => [0xCB, 0xF0]
  | .set_6_c => [0xCB, 0xF1]
  | .set_6_d => [0xCB, 0xF2]
  | .set_6_e => [0xCB, 0xF3]
  | .set_6_h => [0xCB, 0xF4]
  | .set_6_l => [0xCB, 0xF5]
  | .set_6_atHL => [0xCB, 0xF6]
  | .set_6_a => [0xCB, 0xF7]
  | .set_7_b => [0xCB, 0xF8]
  | .set_7_c => [0xCB, 0xF9]
  | .set_7_d => [0xCB, 0xFA]
  | .set_7_e => [0xCB, 0xFB]
  | .set_7_h => [0xCB, 0xFC]
  | .set_7_l => [0xCB, 0xFD]
  | .set_7_atHL => [0xCB, 0xFE]
  | .set_7_a => [0xCB, 0xFF]
  | .jp_n16 n => [0xC3, loByte n, hiByte n]
  | .jp_nz_n16 n => [0xC2, loByte n, hiByte n]
  | .jp_z_n16 n => [0xCA, loByte n, hiByte n]
  | .jp_nc_n16 n => [0xD2, loByte n, hiByte n]
  | .jp_c_n16 n => [0xDA, loByte n, hiByte n]
  | .jp_hl => [0xE9]
  | .jr_e8 e => [0x18, e]
  | .jr_nz_e8 e => [0x20, e]
  | .jr_z_e8 e => [0x28, e]
  | .jr_nc_e8 e => [0x30, e]
  | .jr_c_e8 e => [0x38, e]
  | .call_n16 n => [0xCD, loByte n, hiByte n]
  | .call_nz_n16 n => [0xC4, loByte n, hiByte n]
  | .call_z_n16 n => [0xCC, loByte n, hiByte n]
  | .call_nc_n16 n => [0xD4, loByte n, hiByte n]
  | .call_c_n16 n => [0xDC, loByte n, hiByte n]
  | .rst_00 => [0xC7]
  | .rst_08 => [0xCF]
  | .rst_10 => [0xD7]
  | .rst_18 => [0xDF]
  | .rst_20 => [0xE7]
  | .rst_28 => [0xEF]
  | .rst_30 => [0xF7]
  | .rst_38 => [0xFF]
  | .ret => [0xC9]
  | .ret_nz => [0xC0]
  | .ret_z => [0xC8]
  | .ret_nc => [0xD0]
  | .ret_c => [0xD8]
  | .reti => [0xD9]
  | .nop => [0x00]
  | .halt => [0x76]
  | .stop => (match p with | .one => [0x10] | .two => [0x10, 0x00])
  | .di => [0xF3]
  | .ei => [0xFB]
  | .prefix_cb b => [0xCB, b]
  | .illegal op => [op]

end Sys2Proof
end

