-- ==== Sys2Proof/Machine/State.lean ====
section
/-! DEFINITION. The architectural state of the core (R30 to R47, 10_state.md) as plain data, the output ports of the last
step (R7 to R9, 00_scope.md), the environment's inputs held as data, the reasons a step can stop, and the state after
reset (R60 to R65, R491). INVENTORY.md lists every field with its rule and its reset value. -/

namespace Sys2Proof.Machine

/-- The four flags, "four independent booleans" (R35): zero, negative, half-carry, carry. -/
structure Flags where
  z : Bool
  n : Bool
  h : Bool
  c : Bool
  deriving DecidableEq, Repr

/-- How a step ended (R9). -/
inductive Status where
  | ok
  | illegal (op : Byte)
  | halted
  | stopped
  deriving DecidableEq, Repr

/-- The state of the machine. The first block is the specification's own state, the second the parameters of the step,
the third the output ports of the last step, the fourth the model's record of the environment. -/
structure State where
  a : Byte
  b : Byte
  c : Byte
  d : Byte
  e : Byte
  h : Byte
  l : Byte
  f : Flags
  sp : Word
  pc : Word
  ime : Bool
  halted : Bool
  stopped : Bool
  fault : Option Byte
  rom : List Host.Cell
  bankCount : Nat
  currentIndex : Nat
  romWritePolicy : RomWritePolicy
  stopLength : StopLength
  status : Status
  cycles : Nat
  bus : List BusTxn
  extIn : List Byte
  wakeIn : List Bool
  deriving DecidableEq, Repr

/-- Why the machine could stop with a fault: never. The one runtime exception, IllegalOpcode, is a state that the
specification describes (R450 to R453), so taking it is a next state; no access faults (R73, R78, R451). The type has no
constructor, so no step can raise one (safe: nothing is cut short). -/
inductive Fault where
  deriving DecidableEq, Repr

/-- Why the machine could refuse an instruction. -/
inductive Refusal where
  /-- Raised only by an arm of `exec` whose instruction has no meaning yet; no arm is left so. Safe: nothing is claimed
  of an instruction that is refused. -/
  | notModelled (mnemonic : String)
  deriving DecidableEq, Repr

/-- The core right after construction (R491) with the default parameters and the base image of 95_test_vectors.md:
registers and flags by R60 and R61, IME by R62, the gates by R63, the bank index by R64, the ROM as the image (R65). The
image, the ports before the first step and the environment's inputs are the model's choice (log entries 2 to 7). -/
def State.reset : State where
  a := 0x01
  b := 0x00
  c := 0x13
  d := 0x00
  e := 0xD8
  h := 0x01
  l := 0x4D
  f := { z := true, n := false, h := true, c := true }
  sp := 0xFFFE
  pc := 0x0100
  ime := false
  halted := false
  stopped := false
  fault := none
  rom := []
  bankCount := 2
  currentIndex := 1
  romWritePolicy := .store
  stopLength := .two
  status := .ok
  cycles := 0
  bus := []
  extIn := []
  wakeIn := []

end Sys2Proof.Machine
end

