-- ==== Sys2Proof/Machine/Ops.lean ====
section
/-! DEFINITION. The named operations over registers and memory: the pair and AF views (10_state.md), the ROM array and the
banked mux, the bus, the stack (20_memory.md), the fetch (30_encoding.md), taking IllegalOpcode (60_exceptions.md) and the
`wake` input (45_system.md). -/

namespace Sys2Proof.Machine

/-- What every meaning answers. -/
abbrev Result := Host.Outcome State Fault Refusal

/-! ### The register pairs and the AF view -/

/-- The pair view BC (R31): `concat(B, C)`. -/
def State.bc (s : State) : Word := concat s.b s.c

/-- The pair view DE (R31): `concat(D, E)`. -/
def State.de (s : State) : Word := concat s.d s.e

/-- The pair view HL (R31): `concat(H, L)`. -/
def State.hl (s : State) : Word := concat s.h s.l

/-- Writing BC writes both halves at once (R31). -/
def State.setBC (s : State) (v : Word) : State := { s with b := hiByte v, c := loByte v }

/-- Writing DE writes both halves at once (R31). -/
def State.setDE (s : State) (v : Word) : State := { s with d := hiByte v, e := loByte v }

/-- Writing HL writes both halves at once (R31). -/
def State.setHL (s : State) (v : Word) : State := { s with h := hiByte v, l := loByte v }

/-- The packed flag byte F (R36): bit 7 Z, bit 6 N, bit 5 H, bit 4 C, low nibble 0. -/
def Flags.pack (f : Flags) : Byte :=
  (if f.z then 0x80 else 0) ||| (if f.n then 0x40 else 0) ||| (if f.h then 0x20 else 0) ||| (if f.c then 0x10 else 0)

/-- The flags of a packed byte (R38): bits 7 to 4, the low nibble discarded. -/
def Flags.unpack (v : Byte) : Flags where
  z := v.getLsbD 7
  n := v.getLsbD 6
  h := v.getLsbD 5
  c := v.getLsbD 4

/-- The AF view, read (R37). -/
def State.af (s : State) : Word := concat s.a s.f.pack

/-- The AF view, written (R38). -/
def State.setAF (s : State) (v : Word) : State := { s with a := hiByte v, f := Flags.unpack (loByte v) }

/-! ### The ROM array: a sparse list in canonical form -/

/-- What a ROM byte that the list does not name reads as: the base image of 95_test_vectors.md, which is the default logo
at 0x104-0x133 (R83) and zero elsewhere (log entry 7). -/
def Memory.unlisted (offset : Nat) : Byte :=
  if 0x104 ≤ offset ∧ offset < 0x134 then Config.logoBytes.getD (offset - 0x104) 0 else 0

/-- The byte at a ROM offset. -/
def Memory.read : List Host.Cell → Nat → Byte
  | [], k => Memory.unlisted k
  | (i, v) :: rest, k => if i = k then v else Memory.read rest k

/-- Setting the byte at a ROM offset; the canonical form is kept, so writing what an unlisted byte reads as removes the
entry. -/
def Memory.write : List Host.Cell → Nat → Byte → List Host.Cell
  | [], k, v => if v = Memory.unlisted k then [] else [(k, v)]
  | (i, x) :: rest, k, v =>
    if k < i then (if v = Memory.unlisted k then (i, x) :: rest else (k, v) :: (i, x) :: rest)
    else if k = i then (if v = Memory.unlisted k then rest else (k, v) :: rest)
    else (i, x) :: Memory.write rest k v

/-- The canonical form with every address at least `low`: addresses strictly rising, no entry equal to what an unlisted
byte reads as. -/
def Memory.wfFrom : Nat → List Host.Cell → Bool
  | _, [] => true
  | low, (i, v) :: rest => decide (low ≤ i) && decide (v ≠ Memory.unlisted i) && Memory.wfFrom (i + 1) rest

/-- The canonical form. -/
def Memory.wf (cells : List Host.Cell) : Bool := Memory.wfFrom 0 cells

/-! ### The banked ROM mux and the bus -/

/-- The address lies in a ROM window (R71): 0x0000 to 0x7FFF. -/
def isRom (addr : Word) : Bool := decide (addr.toNat ≤ 0x7FFF)

/-- The banked ROM mux (R71, R72): the offset in the ROM array of an address of a ROM window. -/
def State.romOffset (s : State) (addr : Word) : Nat :=
  if addr.toNat ≤ 0x3FFF then addr.toNat else s.currentIndex * 16384 + (addr.toNat - 0x4000)

/-- The byte the collaborator answers to the next external read (R73): the next byte of its answers, past their end the
free value (log entries 1 and 2). -/
def State.extByte (s : State) (addr : Word) : Byte :=
  match s.extIn with
  | v :: _ => v
  | [] => Config.extRead s.bus addr

/-- The byte that `MemRead(addr, 1)` returns (R71). -/
def State.memByte (s : State) (addr : Word) : Byte :=
  if isRom addr then Memory.read s.rom (s.romOffset addr) else s.extByte addr

/-- What a read leaves: its transaction is on the bus (R99), and an external read has used one answer. No state of the
core changes. -/
def State.afterRead (s : State) (addr : Word) : State :=
  { s with
    bus := .read addr (s.memByte addr) :: s.bus
    extIn := if isRom addr then s.extIn else s.extIn.tail }

/-- `MemRead(addr, 1)` (R16, R71, R73): the byte and the state after. -/
def State.memRead (s : State) (addr : Word) : Byte × State := (s.memByte addr, s.afterRead addr)

/-- `MemWrite(addr, 1, v)` (R74, R75). A ROM window is written under STORE; under IGNORE nothing happens, and there is no
transaction. An external write changes no state of the core: its transaction is its whole effect. -/
def State.memWrite (s : State) (addr : Word) (v : Byte) : State :=
  if isRom addr then
    match s.romWritePolicy with
    | .store => { s with rom := Memory.write s.rom (s.romOffset addr) v, bus := .write addr v :: s.bus }
    | .ignore => s
  else { s with bus := .write addr v :: s.bus }

/-! ### The stack -/

/-- `Push16(v)` (R96): SP is decremented before each write, high byte first. -/
def State.push16 (s : State) (v : Word) : State :=
  let s1 := { s with sp := s.sp - 1 }
  let s2 := s1.memWrite s1.sp (hiByte v)
  let s3 := { s2 with sp := s2.sp - 1 }
  s3.memWrite s3.sp (loByte v)

/-- `Pop16()` (R97): low byte first, SP is incremented after each read. -/
def State.pop16 (s : State) : Word × State :=
  let (lo, s1) := s.memRead s.sp
  let s2 := { s1 with sp := s1.sp + 1 }
  let (hi, s3) := s2.memRead s2.sp
  (concat hi lo, { s3 with sp := s3.sp + 1 })

/-! ### The fetch -/

/-- `Fetch8()` (R130): the byte at PC; PC goes on by one modulo 2^16. -/
def State.fetch8 (s : State) : Byte × State :=
  let (b, s1) := s.memRead s.pc
  (b, { s1 with pc := s1.pc + 1 })

/-- The fetch and decode part of the step procedure (R140): the opcode byte, then as many bytes as its format has (the
prefixed byte, or the immediates low byte first, R131), and the instruction they are. PC is past all of them. -/
def State.fetchInstr (s : State) : Instr × State :=
  let (op, s1) := s.fetch8
  match instrFormat s.stopLength op with
  | .op => (baseInstr op 0 0, s1)
  | .opImm8 =>
    let (n, s2) := s1.fetch8
    (baseInstr op n 0, s2)
  | .opImm16 =>
    let (lo, s2) := s1.fetch8
    let (hi, s3) := s2.fetch8
    (baseInstr op lo hi, s3)
  | .prefixed =>
    let (b, s2) := s1.fetch8
    (prefixedInstr b, s2)

/-! ### Ending a step, the exception, and the wake input -/

/-- The outputs of a step (R9, R8): its status and its cycle count. -/
def State.report (s : State) (status : Status) (cycles : Nat) : State := { s with status := status, cycles := cycles }

/-- A completed instruction (R140): status OK and the cycle count of its descriptor. -/
def State.complete (s : State) (cycles : Nat) : Result := .next (s.report .ok cycles)

/-- Taking IllegalOpcode (R450, R452): the offending byte is recorded, status ILLEGAL(op), cycles 0. PC is already past
the byte. Nothing is pushed, no vector is read, IME is not changed (R454). There is no return from it: no instruction
clears the fault (R453, R454); RETI is an ordinary return (R457). -/
def State.raiseIllegalOpcode (s : State) (op : Byte) : State := { s with fault := some op }.report (.illegal op) 0

/-- The `wake` input (R427): it ends the halted and the stopped state and changes nothing else; a fault stays. -/
def State.wake (s : State) : State := { s with halted := false, stopped := false }

/-- The environment's event just before a step: the next entry of the schedule says whether `wake` is presented
(R427, R456; log entry 3). -/
def State.takeWake (s : State) : State :=
  match s.wakeIn with
  | [] => s
  | w :: rest => if w then { s with wakeIn := rest }.wake else { s with wakeIn := rest }

/-- The gates of the step procedure (R140), in its order: a faulted core reports its fault with cycles 0 (R453), a halted
or stopped one its state with cycles 4 (R421, R422). Such a step makes no fetch and changes no state. `none`: the core
runs. -/
def State.idleStep (s : State) : Option State :=
  match s.fault with
  | some op => some (s.report (.illegal op) 0)
  | none =>
    if s.halted then some (s.report .halted 4)
    else if s.stopped then some (s.report .stopped 4)
    else none

/-- Laying bytes where the fetch finds them, from an address on: in the ROM array whatever the write policy, or as the
collaborator's next answers. -/
def State.placeBytes (s : State) (addr : Word) : List Byte → State
  | [] => s
  | v :: rest =>
    if isRom addr then
      { s with rom := Memory.write s.rom (s.romOffset addr) v }.placeBytes (addr + 1) rest
    else
      let t := s.placeBytes (addr + 1) rest
      { t with extIn := v :: t.extIn }

/-- The `ime` output port (R428). -/
def State.imeOut (s : State) : Bool := s.ime

end Sys2Proof.Machine
end

