-- ==== Sys2Proof/Machine/Operands.lean ====
section
/-! DEFINITION. The operand kinds of 30_encoding.md (R122 to R128): registers, pairs, memory operands with their effective
addresses and post-modifications, and conditions; how each is read and written. -/

namespace Sys2Proof.Machine

/-- The 8-bit registers (R30). -/
inductive Reg8 where
  | a | b | c | d | e | h | l
  deriving DecidableEq, Repr

/-- A read of an 8-bit register (R15). -/
def State.reg8 (s : State) : Reg8 → Byte
  | .a => s.a
  | .b => s.b
  | .c => s.c
  | .d => s.d
  | .e => s.e
  | .h => s.h
  | .l => s.l

/-- A write of an 8-bit register (R15); none is hardwired (R30). -/
def State.setReg8 (s : State) (r : Reg8) (v : Byte) : State :=
  match r with
  | .a => { s with a := v }
  | .b => { s with b := v }
  | .c => { s with c := v }
  | .d => { s with d := v }
  | .e => { s with e := v }
  | .h => { s with h := v }
  | .l => { s with l := v }

/-- The register-pair operands `rp` (R123). -/
inductive Reg16 where
  | bc | de | hl | sp
  deriving DecidableEq, Repr

/-- A read of a pair or SP (R31, R33). -/
def State.reg16 (s : State) : Reg16 → Word
  | .bc => s.bc
  | .de => s.de
  | .hl => s.hl
  | .sp => s.sp

/-- A write of a pair or SP (R31, R33). -/
def State.setReg16 (s : State) (r : Reg16) (v : Word) : State :=
  match r with
  | .bc => s.setBC v
  | .de => s.setDE v
  | .hl => s.setHL v
  | .sp => { s with sp := v }

/-- The register-pair operands `rp2` of PUSH and POP (R123). -/
inductive StackReg where
  | bc | de | hl | af
  deriving DecidableEq, Repr

/-- What PUSH pushes (R223); for AF the view with a zero low nibble (R37). -/
def State.stackReg (s : State) : StackReg → Word
  | .bc => s.bc
  | .de => s.de
  | .hl => s.hl
  | .af => s.af

/-- What POP writes (R224, R225); for AF the view discards bits 3 to 0 (R38). -/
def State.setStackReg (s : State) (r : StackReg) (v : Word) : State :=
  match r with
  | .bc => s.setBC v
  | .de => s.setDE v
  | .hl => s.setHL v
  | .af => s.setAF v

/-- The memory kinds of Operand8 (R126). -/
inductive MemOperand where
  | atBC
  | atDE
  | atHL
  | atHLInc
  | atHLDec
  | atC
  | atA8 (o : Byte)
  | atA16 (addr : Word)
  deriving DecidableEq, Repr

/-- The effective address of a memory operand (R126). -/
def State.ea (s : State) : MemOperand → Word
  | .atBC => s.bc
  | .atDE => s.de
  | .atHL => s.hl
  | .atHLInc => s.hl
  | .atHLDec => s.hl
  | .atC => 0xFF00 + zext16 s.c
  | .atA8 o => 0xFF00 + zext16 o
  | .atA16 addr => addr

/-- The post-modification of (HL+) and (HL-), after the access, modulo 2^16 (R126); nothing for the other kinds. -/
def State.postModify (s : State) : MemOperand → State
  | .atHLInc => s.setHL (s.hl + 1)
  | .atHLDec => s.setHL (s.hl - 1)
  | .atBC => s
  | .atDE => s
  | .atHL => s
  | .atC => s
  | .atA8 _ => s
  | .atA16 _ => s

/-- An 8-bit operand that can be read and written: a register, or a byte of memory (R122, R126). -/
inductive Operand8 where
  | reg (r : Reg8)
  | mem (m : MemOperand)
  deriving DecidableEq, Repr

/-- Reading an operand: a register, or one bus read of the effective address and then the post-modification. -/
def State.readOperand (s : State) : Operand8 → Byte × State
  | .reg r => (s.reg8 r, s)
  | .mem m => (s.memByte (s.ea m), (s.afterRead (s.ea m)).postModify m)

/-- Writing an operand: a register, or one bus write to the effective address and then the post-modification. -/
def State.writeOperand (s : State) (o : Operand8) (v : Byte) : State :=
  match o with
  | .reg r => s.setReg8 r v
  | .mem m => (s.memWrite (s.ea m) v).postModify m

/-- A source operand: an operand, or an immediate byte `n8` (R125, R126). -/
inductive Source8 where
  | opnd (o : Operand8)
  | imm8 (n : Byte)
  deriving DecidableEq, Repr

/-- Reading a source. An immediate was fetched with the instruction (R141). -/
def State.readSource (s : State) : Source8 → Byte × State
  | .opnd o => s.readOperand o
  | .imm8 n => (n, s)

/-- The conditions (R124, R128). -/
inductive Cond where
  | always | nz | z | nc | c
  deriving DecidableEq, Repr

/-- `Cond(k)` (R380). -/
def State.cond (s : State) : Cond → Bool
  | .always => true
  | .nz => !s.f.z
  | .z => s.f.z
  | .nc => !s.f.c
  | .c => s.f.c

/-- The register or (HL) operand of a 3-bit code `r8` (R122). -/
def Operand8.ofCode (z : BitVec 3) : Operand8 :=
  match z.toNat with
  | 0 => .reg .b
  | 1 => .reg .c
  | 2 => .reg .d
  | 3 => .reg .e
  | 4 => .reg .h
  | 5 => .reg .l
  | 6 => .mem .atHL
  | _ => .reg .a

/-- The pair of a 2-bit code `rp` (R123). -/
def Reg16.ofCode (p : BitVec 2) : Reg16 :=
  match p.toNat with
  | 0 => .bc
  | 1 => .de
  | 2 => .hl
  | _ => .sp

/-- The pair of a 2-bit code `rp2` (R123). -/
def StackReg.ofCode (p : BitVec 2) : StackReg :=
  match p.toNat with
  | 0 => .bc
  | 1 => .de
  | 2 => .hl
  | _ => .af

/-- The condition of a 2-bit code `cc` (R124). -/
def Cond.ofCode (k : BitVec 2) : Cond :=
  match k.toNat with
  | 0 => .nz
  | 1 => .z
  | 2 => .nc
  | _ => .c

end Sys2Proof.Machine
end

