-- ==== Sys2Proof/Machine/Flags.lean ====
section
/-! DEFINITION. The results and flags of the arithmetic, logic, rotate, shift and bit instructions, as functions on values:
41_alu8.md, 42_alu16.md and 43_rotate_shift_bit.md. Operands become naturals, the exact result is compared with its
narrowed form (R13). -/

namespace Sys2Proof.Machine

/-- ADD and ADC (R251, R252): `a + s + cin`; ADD has no carry in. -/
def add8 (a s : Byte) (cin : Bool) : Byte × Flags :=
  let t := a.toNat + s.toNat + cin.toNat
  let r := BitVec.ofNat 8 t
  (r, { z := r == 0
        n := false
        h := decide ((a &&& 0xF).toNat + (s &&& 0xF).toNat + cin.toNat > 0xF)
        c := decide (t > 0xFF) })

/-- SUB, SBC and CP (R253, R254, R258): `a - s - cin`; SUB and CP have no borrow in. -/
def sub8 (a s : Byte) (cin : Bool) : Byte × Flags :=
  let r := a - s - BitVec.ofNat 8 cin.toNat
  (r, { z := r == 0
        n := true
        h := decide ((a &&& 0xF).toNat < (s &&& 0xF).toNat + cin.toNat)
        c := decide (a.toNat < s.toNat + cin.toNat) })

/-- The flags of AND (R255): H is 1, C is 0. -/
def andFlags (r : Byte) : Flags := { z := r == 0, n := false, h := true, c := false }

/-- The flags of XOR and OR (R256, R257): H and C are 0. -/
def orFlags (r : Byte) : Flags := { z := r == 0, n := false, h := false, c := false }

/-- The eight ALU operations in the order of the field `y` (R250). -/
inductive AluOp where
  | add | adc | sub | sbc | and | xor | or | cp
  deriving DecidableEq, Repr

/-- What an ALU operation leaves in A and in the flags, from A, the source and the old flags (R251 to R258). CP leaves A
(R258). -/
def AluOp.apply (op : AluOp) (a s : Byte) (f : Flags) : Byte × Flags :=
  match op with
  | .add => add8 a s false
  | .adc => add8 a s f.c
  | .sub => sub8 a s false
  | .sbc => sub8 a s f.c
  | .and => (a &&& s, andFlags (a &&& s))
  | .xor => (a ^^^ s, orFlags (a ^^^ s))
  | .or => (a ||| s, orFlags (a ||| s))
  | .cp => (a, (sub8 a s false).2)

/-- INC r and INC (HL) (R259, R260): C is kept. -/
def inc8 (v : Byte) (f : Flags) : Byte × Flags :=
  let w := v + 1
  (w, { f with z := w == 0, n := false, h := (v &&& 0xF) == 0xF })

/-- DEC r and DEC (HL) (R261, R262): C is kept. -/
def dec8 (v : Byte) (f : Flags) : Byte × Flags :=
  let w := v - 1
  (w, { f with z := w == 0, n := true, h := (v &&& 0xF) == 0 })

/-- The correction of DAA (R263): both conditions test the original A. -/
def daaCorrection (a : Byte) (f : Flags) : Byte :=
  (if f.h || (!f.n && decide ((a &&& 0xF).toNat > 9)) then 0x06 else 0) +
  (if f.c || (!f.n && decide (a.toNat > 0x99)) then 0x60 else 0)

/-- DAA (R263): the corrected A; Z from it, N kept, H cleared, C from the correction. -/
def daa (a : Byte) (f : Flags) : Byte × Flags :=
  let corr := daaCorrection a f
  let r := if f.n then a - corr else a + corr
  (r, { z := r == 0, n := f.n, h := false, c := decide (corr.toNat ≥ 0x60) })

/-- ADD HL,rr (R303): carry out of bit 11 and of bit 15; Z is kept. -/
def addHL (h v : Word) (f : Flags) : Word × Flags :=
  let t := h.toNat + v.toNat
  (BitVec.ofNat 16 t,
    { f with
      n := false
      h := decide ((h &&& 0xFFF).toNat + (v &&& 0xFFF).toNat > 0xFFF)
      c := decide (t > 0xFFFF) })

/-- `SPAddE8(e)` (R300): the sum with the sign-extended byte; the flags come from the unsigned low-byte addition. -/
def spAddE8 (sp : Word) (e : Byte) : Word × Flags :=
  (sp + sext16 e,
    { z := false
      n := false
      h := decide ((sp &&& 0xF).toNat + (e &&& 0xF).toNat > 0xF)
      c := decide ((sp &&& 0xFF).toNat + e.toNat > 0xFF) })

/-- The rotate and shift operations in the order of the field `y` of the prefixed table (R129). -/
inductive ShiftOp where
  | rlc | rrc | rl | rr | sla | sra | swap | srl
  deriving DecidableEq, Repr

/-- The rotated or shifted byte and the bit that goes to the carry (R335 to R342); `c` is the old carry. -/
def ShiftOp.apply (op : ShiftOp) (v : Byte) (c : Bool) : Byte × Bool :=
  match op with
  | .rlc => ((v <<< 1) ||| (if v.getLsbD 7 then 0x01 else 0), v.getLsbD 7)
  | .rrc => ((v >>> 1) ||| (if v.getLsbD 0 then 0x80 else 0), v.getLsbD 0)
  | .rl => ((v <<< 1) ||| (if c then 0x01 else 0), v.getLsbD 7)
  | .rr => ((v >>> 1) ||| (if c then 0x80 else 0), v.getLsbD 0)
  | .sla => (v <<< 1, v.getLsbD 7)
  | .sra => ((v >>> 1) ||| (v &&& 0x80), v.getLsbD 0)
  | .swap => (((v &&& 0x0F) <<< 4) ||| (v >>> 4), false)
  | .srl => (v >>> 1, v.getLsbD 0)

/-- The flags of a prefixed rotate or shift (R335 to R342): Z from the result, N and H 0, C the bit out. -/
def shiftFlags (w : Byte) (out : Bool) : Flags := { z := w == 0, n := false, h := false, c := out }

/-- The flags of an accumulator rotate (R330 to R333): Z, N and H 0, C the bit out. -/
def accRotateFlags (out : Bool) : Flags := { z := false, n := false, h := false, c := out }

/-- The flags of BIT (R343): Z is the complement of the bit, N 0, H 1, C kept. -/
def bitFlags (v : Byte) (u : Nat) (f : Flags) : Flags := { f with z := !v.getLsbD u, n := false, h := true }

/-- RES (R344): the byte with bit `u` cleared. -/
def clearBit (v : Byte) (u : Nat) : Byte := v &&& (0xFF - ((1 : Byte) <<< u))

/-- SET (R345): the byte with bit `u` set. -/
def setBit (v : Byte) (u : Nat) : Byte := v ||| ((1 : Byte) <<< u)

/-- The rotate or shift of a 3-bit code `y` (R129). -/
def ShiftOp.ofCode (y : BitVec 3) : ShiftOp :=
  match y.toNat with
  | 0 => .rlc
  | 1 => .rrc
  | 2 => .rl
  | 3 => .rr
  | 4 => .sla
  | 5 => .sra
  | 6 => .swap
  | _ => .srl

/-- The ALU operation of a 3-bit code `y` (R250). -/
def AluOp.ofCode (y : BitVec 3) : AluOp :=
  match y.toNat with
  | 0 => .add
  | 1 => .adc
  | 2 => .sub
  | 3 => .sbc
  | 4 => .and
  | 5 => .xor
  | 6 => .or
  | _ => .cp

end Sys2Proof.Machine
end

