-- ==== Sys2Proof/Machine/Alu16.lean ====
section
/-! DEFINITION. 16-bit arithmetic (42_alu16.md, R300 to R304): the shared operations, then one meaning per instruction. The
number in each is the cycle count of its row (R497). -/

namespace Sys2Proof.Machine

/-- INC rr (R301): modulo 2^16, no flag. -/
def incReg16 (r : Reg16) (cycles : Nat) (s : State) : Result := (s.setReg16 r (s.reg16 r + 1)).complete cycles

/-- DEC rr (R302): modulo 2^16, no flag. -/
def decReg16 (r : Reg16) (cycles : Nat) (s : State) : Result := (s.setReg16 r (s.reg16 r - 1)).complete cycles

/-- ADD HL,rr (R303). -/
def addHLReg16 (r : Reg16) (cycles : Nat) (s : State) : Result :=
  let (v, f) := addHL s.hl (s.reg16 r) s.f
  { s.setHL v with f := f }.complete cycles

/-- ADD SP,e8 (R304). -/
def addSP (e : Byte) (cycles : Nat) (s : State) : Result :=
  let (v, f) := spAddE8 s.sp e
  { s with sp := v, f := f }.complete cycles

/-- INC BC (0x03; R301). -/
def execInc_bc (s : State) : Result := incReg16 .bc 8 s

/-- INC DE (0x13; R301). -/
def execInc_de (s : State) : Result := incReg16 .de 8 s

/-- INC HL (0x23; R301). -/
def execInc_hl (s : State) : Result := incReg16 .hl 8 s

/-- INC SP (0x33; R301). -/
def execInc_sp (s : State) : Result := incReg16 .sp 8 s

/-- DEC BC (0x0B; R302). -/
def execDec_bc (s : State) : Result := decReg16 .bc 8 s

/-- DEC DE (0x1B; R302). -/
def execDec_de (s : State) : Result := decReg16 .de 8 s

/-- DEC HL (0x2B; R302). -/
def execDec_hl (s : State) : Result := decReg16 .hl 8 s

/-- DEC SP (0x3B; R302). -/
def execDec_sp (s : State) : Result := decReg16 .sp 8 s

/-- ADD HL,BC (0x09; R303). -/
def execAdd_hl_bc (s : State) : Result := addHLReg16 .bc 8 s

/-- ADD HL,DE (0x19; R303). -/
def execAdd_hl_de (s : State) : Result := addHLReg16 .de 8 s

/-- ADD HL,HL (0x29; R303). -/
def execAdd_hl_hl (s : State) : Result := addHLReg16 .hl 8 s

/-- ADD HL,SP (0x39; R303). -/
def execAdd_hl_sp (s : State) : Result := addHLReg16 .sp 8 s

/-- ADD SP,e8 (0xE8; R304). -/
def execAdd_sp_e8 (e : Byte) (s : State) : Result := addSP e 16 s

end Sys2Proof.Machine
end

