-- ==== Sys2Proof/Machine/Alu8.lean ====
section
/-! DEFINITION. 8-bit arithmetic and logic (41_alu8.md, R250 to R266): the shared operations, then one meaning per
instruction. The number in each is the cycle count of its row (R497). -/

namespace Sys2Proof.Machine

/-- The eight ALU operations on A and a source (R250 to R258): the source is read before A and the flags are written. -/
def alu (op : AluOp) (src : Source8) (cycles : Nat) (s : State) : Result :=
  let (v, s1) := s.readSource src
  let (r, f) := op.apply s1.a v s1.f
  { s1 with a := r, f := f }.complete cycles

/-- INC r and INC (HL) (R259, R260): read, write back, flags; C is kept. -/
def incOperand (o : Operand8) (cycles : Nat) (s : State) : Result :=
  let (v, s1) := s.readOperand o
  let (w, f) := inc8 v s1.f
  { s1.writeOperand o w with f := f }.complete cycles

/-- DEC r and DEC (HL) (R261, R262): read, write back, flags; C is kept. -/
def decOperand (o : Operand8) (cycles : Nat) (s : State) : Result :=
  let (v, s1) := s.readOperand o
  let (w, f) := dec8 v s1.f
  { s1.writeOperand o w with f := f }.complete cycles

/-- DAA (R263). -/
def daaAcc (cycles : Nat) (s : State) : Result :=
  let (r, f) := daa s.a s.f
  { s with a := r, f := f }.complete cycles

/-- CPL (R264): N and H become 1, Z and C are kept. -/
def cplAcc (cycles : Nat) (s : State) : Result :=
  { s with a := ~~~s.a, f := { s.f with n := true, h := true } }.complete cycles

/-- SCF (R265): C becomes 1, N and H become 0, Z is kept. -/
def setCarry (cycles : Nat) (s : State) : Result :=
  { s with f := { s.f with n := false, h := false, c := true } }.complete cycles

/-- CCF (R266): C is complemented, N and H become 0, Z is kept. -/
def complementCarry (cycles : Nat) (s : State) : Result :=
  { s with f := { s.f with n := false, h := false, c := !s.f.c } }.complete cycles

/-- ADD A,B (0x80; R251). -/
def execAdd_a_b (s : State) : Result := alu .add (.opnd (.reg .b)) 4 s

/-- ADD A,C (0x81; R251). -/
def execAdd_a_c (s : State) : Result := alu .add (.opnd (.reg .c)) 4 s

/-- ADD A,D (0x82; R251). -/
def execAdd_a_d (s : State) : Result := alu .add (.opnd (.reg .d)) 4 s

/-- ADD A,E (0x83; R251). -/
def execAdd_a_e (s : State) : Result := alu .add (.opnd (.reg .e)) 4 s

/-- ADD A,H (0x84; R251). -/
def execAdd_a_h (s : State) : Result := alu .add (.opnd (.reg .h)) 4 s

/-- ADD A,L (0x85; R251). -/
def execAdd_a_l (s : State) : Result := alu .add (.opnd (.reg .l)) 4 s

/-- ADD A,(HL) (0x86; R251). -/
def execAdd_a_atHL (s : State) : Result := alu .add (.opnd (.mem .atHL)) 8 s

/-- ADD A,A (0x87; R251). -/
def execAdd_a_a (s : State) : Result := alu .add (.opnd (.reg .a)) 4 s

/-- ADD A,n8 (0xC6; R251). -/
def execAdd_a_n8 (n : Byte) (s : State) : Result := alu .add (.imm8 n) 8 s

/-- ADC A,B (0x88; R252). -/
def execAdc_a_b (s : State) : Result := alu .adc (.opnd (.reg .b)) 4 s

/-- ADC A,C (0x89; R252). -/
def execAdc_a_c (s : State) : Result := alu .adc (.opnd (.reg .c)) 4 s

/-- ADC A,D (0x8A; R252). -/
def execAdc_a_d (s : State) : Result := alu .adc (.opnd (.reg .d)) 4 s

/-- ADC A,E (0x8B; R252). -/
def execAdc_a_e (s : State) : Result := alu .adc (.opnd (.reg .e)) 4 s

/-- ADC A,H (0x8C; R252). -/
def execAdc_a_h (s : State) : Result := alu .adc (.opnd (.reg .h)) 4 s

/-- ADC A,L (0x8D; R252). -/
def execAdc_a_l (s : State) : Result := alu .adc (.opnd (.reg .l)) 4 s

/-- ADC A,(HL) (0x8E; R252). -/
def execAdc_a_atHL (s : State) : Result := alu .adc (.opnd (.mem .atHL)) 8 s

/-- ADC A,A (0x8F; R252). -/
def execAdc_a_a (s : State) : Result := alu .adc (.opnd (.reg .a)) 4 s

/-- ADC A,n8 (0xCE; R252). -/
def execAdc_a_n8 (n : Byte) (s : State) : Result := alu .adc (.imm8 n) 8 s

/-- SUB A,B (0x90; R253). -/
def execSub_a_b (s : State) : Result := alu .sub (.opnd (.reg .b)) 4 s

/-- SUB A,C (0x91; R253). -/
def execSub_a_c (s : State) : Result := alu .sub (.opnd (.reg .c)) 4 s

/-- SUB A,D (0x92; R253). -/
def execSub_a_d (s : State) : Result := alu .sub (.opnd (.reg .d)) 4 s

/-- SUB A,E (0x93; R253). -/
def execSub_a_e (s : State) : Result := alu .sub (.opnd (.reg .e)) 4 s

/-- SUB A,H (0x94; R253). -/
def execSub_a_h (s : State) : Result := alu .sub (.opnd (.reg .h)) 4 s

/-- SUB A,L (0x95; R253). -/
def execSub_a_l (s : State) : Result := alu .sub (.opnd (.reg .l)) 4 s

/-- SUB A,(HL) (0x96; R253). -/
def execSub_a_atHL (s : State) : Result := alu .sub (.opnd (.mem .atHL)) 8 s

/-- SUB A,A (0x97; R253). -/
def execSub_a_a (s : State) : Result := alu .sub (.opnd (.reg .a)) 4 s

/-- SUB A,n8 (0xD6; R253). -/
def execSub_a_n8 (n : Byte) (s : State) : Result := alu .sub (.imm8 n) 8 s

/-- SBC A,B (0x98; R254). -/
def execSbc_a_b (s : State) : Result := alu .sbc (.opnd (.reg .b)) 4 s

/-- SBC A,C (0x99; R254). -/
def execSbc_a_c (s : State) : Result := alu .sbc (.opnd (.reg .c)) 4 s

/-- SBC A,D (0x9A; R254). -/
def execSbc_a_d (s : State) : Result := alu .sbc (.opnd (.reg .d)) 4 s

/-- SBC A,E (0x9B; R254). -/
def execSbc_a_e (s : State) : Result := alu .sbc (.opnd (.reg .e)) 4 s

/-- SBC A,H (0x9C; R254). -/
def execSbc_a_h (s : State) : Result := alu .sbc (.opnd (.reg .h)) 4 s

/-- SBC A,L (0x9D; R254). -/
def execSbc_a_l (s : State) : Result := alu .sbc (.opnd (.reg .l)) 4 s

/-- SBC A,(HL) (0x9E; R254). -/
def execSbc_a_atHL (s : State) : Result := alu .sbc (.opnd (.mem .atHL)) 8 s

/-- SBC A,A (0x9F; R254). -/
def execSbc_a_a (s : State) : Result := alu .sbc (.opnd (.reg .a)) 4 s

/-- SBC A,n8 (0xDE; R254). -/
def execSbc_a_n8 (n : Byte) (s : State) : Result := alu .sbc (.imm8 n) 8 s

/-- AND A,B (0xA0; R255). -/
def execAnd_a_b (s : State) : Result := alu .and (.opnd (.reg .b)) 4 s

/-- AND A,C (0xA1; R255). -/
def execAnd_a_c (s : State) : Result := alu .and (.opnd (.reg .c)) 4 s

/-- AND A,D (0xA2; R255). -/
def execAnd_a_d (s : State) : Result := alu .and (.opnd (.reg .d)) 4 s

/-- AND A,E (0xA3; R255). -/
def execAnd_a_e (s : State) : Result := alu .and (.opnd (.reg .e)) 4 s

/-- AND A,H (0xA4; R255). -/
def execAnd_a_h (s : State) : Result := alu .and (.opnd (.reg .h)) 4 s

/-- AND A,L (0xA5; R255). -/
def execAnd_a_l (s : State) : Result := alu .and (.opnd (.reg .l)) 4 s

/-- AND A,(HL) (0xA6; R255). -/
def execAnd_a_atHL (s : State) : Result := alu .and (.opnd (.mem .atHL)) 8 s

/-- AND A,A (0xA7; R255). -/
def execAnd_a_a (s : State) : Result := alu .and (.opnd (.reg .a)) 4 s

/-- AND A,n8 (0xE6; R255). -/
def execAnd_a_n8 (n : Byte) (s : State) : Result := alu .and (.imm8 n) 8 s

/-- XOR A,B (0xA8; R256). -/
def execXor_a_b (s : State) : Result := alu .xor (.opnd (.reg .b)) 4 s

/-- XOR A,C (0xA9; R256). -/
def execXor_a_c (s : State) : Result := alu .xor (.opnd (.reg .c)) 4 s

/-- XOR A,D (0xAA; R256). -/
def execXor_a_d (s : State) : Result := alu .xor (.opnd (.reg .d)) 4 s

/-- XOR A,E (0xAB; R256). -/
def execXor_a_e (s : State) : Result := alu .xor (.opnd (.reg .e)) 4 s

/-- XOR A,H (0xAC; R256). -/
def execXor_a_h (s : State) : Result := alu .xor (.opnd (.reg .h)) 4 s

/-- XOR A,L (0xAD; R256). -/
def execXor_a_l (s : State) : Result := alu .xor (.opnd (.reg .l)) 4 s

/-- XOR A,(HL) (0xAE; R256). -/
def execXor_a_atHL (s : State) : Result := alu .xor (.opnd (.mem .atHL)) 8 s

/-- XOR A,A (0xAF; R256). -/
def execXor_a_a (s : State) : Result := alu .xor (.opnd (.reg .a)) 4 s

/-- XOR A,n8 (0xEE; R256). -/
def execXor_a_n8 (n : Byte) (s : State) : Result := alu .xor (.imm8 n) 8 s

/-- OR A,B (0xB0; R257). -/
def execOr_a_b (s : State) : Result := alu .or (.opnd (.reg .b)) 4 s

/-- OR A,C (0xB1; R257). -/
def execOr_a_c (s : State) : Result := alu .or (.opnd (.reg .c)) 4 s

/-- OR A,D (0xB2; R257). -/
def execOr_a_d (s : State) : Result := alu .or (.opnd (.reg .d)) 4 s

/-- OR A,E (0xB3; R257). -/
def execOr_a_e (s : State) : Result := alu .or (.opnd (.reg .e)) 4 s

/-- OR A,H (0xB4; R257). -/
def execOr_a_h (s : State) : Result := alu .or (.opnd (.reg .h)) 4 s

/-- OR A,L (0xB5; R257). -/
def execOr_a_l (s : State) : Result := alu .or (.opnd (.reg .l)) 4 s

/-- OR A,(HL) (0xB6; R257). -/
def execOr_a_atHL (s : State) : Result := alu .or (.opnd (.mem .atHL)) 8 s

/-- OR A,A (0xB7; R257). -/
def execOr_a_a (s : State) : Result := alu .or (.opnd (.reg .a)) 4 s

/-- OR A,n8 (0xF6; R257). -/
def execOr_a_n8 (n : Byte) (s : State) : Result := alu .or (.imm8 n) 8 s

/-- CP A,B (0xB8; R258). -/
def execCp_a_b (s : State) : Result := alu .cp (.opnd (.reg .b)) 4 s

/-- CP A,C (0xB9; R258). -/
def execCp_a_c (s : State) : Result := alu .cp (.opnd (.reg .c)) 4 s

/-- CP A,D (0xBA; R258). -/
def execCp_a_d (s : State) : Result := alu .cp (.opnd (.reg .d)) 4 s

/-- CP A,E (0xBB; R258). -/
def execCp_a_e (s : State) : Result := alu .cp (.opnd (.reg .e)) 4 s

/-- CP A,H (0xBC; R258). -/
def execCp_a_h (s : State) : Result := alu .cp (.opnd (.reg .h)) 4 s

/-- CP A,L (0xBD; R258). -/
def execCp_a_l (s : State) : Result := alu .cp (.opnd (.reg .l)) 4 s

/-- CP A,(HL) (0xBE; R258). -/
def execCp_a_atHL (s : State) : Result := alu .cp (.opnd (.mem .atHL)) 8 s

/-- CP A,A (0xBF; R258). -/
def execCp_a_a (s : State) : Result := alu .cp (.opnd (.reg .a)) 4 s

/-- CP A,n8 (0xFE; R258). -/
def execCp_a_n8 (n : Byte) (s : State) : Result := alu .cp (.imm8 n) 8 s

/-- INC B (0x04; R259). -/
def execInc_b (s : State) : Result := incOperand (.reg .b) 4 s

/-- INC C (0x0C; R259). -/
def execInc_c (s : State) : Result := incOperand (.reg .c) 4 s

/-- INC D (0x14; R259). -/
def execInc_d (s : State) : Result := incOperand (.reg .d) 4 s

/-- INC E (0x1C; R259). -/
def execInc_e (s : State) : Result := incOperand (.reg .e) 4 s

/-- INC H (0x24; R259). -/
def execInc_h (s : State) : Result := incOperand (.reg .h) 4 s

/-- INC L (0x2C; R259). -/
def execInc_l (s : State) : Result := incOperand (.reg .l) 4 s

/-- INC A (0x3C; R259). -/
def execInc_a (s : State) : Result := incOperand (.reg .a) 4 s

/-- INC (HL) (0x34; R260). -/
def execInc_atHL (s : State) : Result := incOperand (.mem .atHL) 12 s

/-- DEC B (0x05; R261). -/
def execDec_b (s : State) : Result := decOperand (.reg .b) 4 s

/-- DEC C (0x0D; R261). -/
def execDec_c (s : State) : Result := decOperand (.reg .c) 4 s

/-- DEC D (0x15; R261). -/
def execDec_d (s : State) : Result := decOperand (.reg .d) 4 s

/-- DEC E (0x1D; R261). -/
def execDec_e (s : State) : Result := decOperand (.reg .e) 4 s

/-- DEC H (0x25; R261). -/
def execDec_h (s : State) : Result := decOperand (.reg .h) 4 s

/-- DEC L (0x2D; R261). -/
def execDec_l (s : State) : Result := decOperand (.reg .l) 4 s

/-- DEC A (0x3D; R261). -/
def execDec_a (s : State) : Result := decOperand (.reg .a) 4 s

/-- DEC (HL) (0x35; R262). -/
def execDec_atHL (s : State) : Result := decOperand (.mem .atHL) 12 s

/-- DAA (0x27; R263). -/
def execDaa (s : State) : Result := daaAcc 4 s

/-- CPL (0x2F; R264). -/
def execCpl (s : State) : Result := cplAcc 4 s

/-- SCF (0x37; R265). -/
def execScf (s : State) : Result := setCarry 4 s

/-- CCF (0x3F; R266). -/
def execCcf (s : State) : Result := complementCarry 4 s

end Sys2Proof.Machine
end

