-- ==== Sys2Proof/Machine/Bits.lean ====
section
/-! DEFINITION. Bit test, clear and set (43_rotate_shift_bit.md, R343 to R345): the shared operations, then one meaning per
instruction. The number in each is the cycle count of its row (R497). -/

namespace Sys2Proof.Machine

/-- BIT u3,opnd (R343): reads, and writes only the flags. -/
def bitTest (u : Nat) (o : Operand8) (cycles : Nat) (s : State) : Result :=
  let (v, s1) := s.readOperand o
  { s1 with f := bitFlags v u s1.f }.complete cycles

/-- RES u3,opnd (R344): no flag. -/
def bitClear (u : Nat) (o : Operand8) (cycles : Nat) (s : State) : Result :=
  let (v, s1) := s.readOperand o
  (s1.writeOperand o (clearBit v u)).complete cycles

/-- SET u3,opnd (R345): no flag. -/
def bitSet (u : Nat) (o : Operand8) (cycles : Nat) (s : State) : Result :=
  let (v, s1) := s.readOperand o
  (s1.writeOperand o (setBit v u)).complete cycles

/-- BIT 0,B (0xCB 0x40; R343). -/
def execBit_0_b (s : State) : Result := bitTest 0 (.reg .b) 8 s

/-- BIT 0,C (0xCB 0x41; R343). -/
def execBit_0_c (s : State) : Result := bitTest 0 (.reg .c) 8 s

/-- BIT 0,D (0xCB 0x42; R343). -/
def execBit_0_d (s : State) : Result := bitTest 0 (.reg .d) 8 s

/-- BIT 0,E (0xCB 0x43; R343). -/
def execBit_0_e (s : State) : Result := bitTest 0 (.reg .e) 8 s

/-- BIT 0,H (0xCB 0x44; R343). -/
def execBit_0_h (s : State) : Result := bitTest 0 (.reg .h) 8 s

/-- BIT 0,L (0xCB 0x45; R343). -/
def execBit_0_l (s : State) : Result := bitTest 0 (.reg .l) 8 s

/-- BIT 0,(HL) (0xCB 0x46; R343). -/
def execBit_0_atHL (s : State) : Result := bitTest 0 (.mem .atHL) 12 s

/-- BIT 0,A (0xCB 0x47; R343). -/
def execBit_0_a (s : State) : Result := bitTest 0 (.reg .a) 8 s

/-- BIT 1,B (0xCB 0x48; R343). -/
def execBit_1_b (s : State) : Result := bitTest 1 (.reg .b) 8 s

/-- BIT 1,C (0xCB 0x49; R343). -/
def execBit_1_c (s : State) : Result := bitTest 1 (.reg .c) 8 s

/-- BIT 1,D (0xCB 0x4A; R343). -/
def execBit_1_d (s : State) : Result := bitTest 1 (.reg .d) 8 s

/-- BIT 1,E (0xCB 0x4B; R343). -/
def execBit_1_e (s : State) : Result := bitTest 1 (.reg .e) 8 s

/-- BIT 1,H (0xCB 0x4C; R343). -/
def execBit_1_h (s : State) : Result := bitTest 1 (.reg .h) 8 s

/-- BIT 1,L (0xCB 0x4D; R343). -/
def execBit_1_l (s : State) : Result := bitTest 1 (.reg .l) 8 s

/-- BIT 1,(HL) (0xCB 0x4E; R343). -/
def execBit_1_atHL (s : State) : Result := bitTest 1 (.mem .atHL) 12 s

/-- BIT 1,A (0xCB 0x4F; R343). -/
def execBit_1_a (s : State) : Result := bitTest 1 (.reg .a) 8 s

/-- BIT 2,B (0xCB 0x50; R343). -/
def execBit_2_b (s : State) : Result := bitTest 2 (.reg .b) 8 s

/-- BIT 2,C (0xCB 0x51; R343). -/
def execBit_2_c (s : State) : Result := bitTest 2 (.reg .c) 8 s

/-- BIT 2,D (0xCB 0x52; R343). -/
def execBit_2_d (s : State) : Result := bitTest 2 (.reg .d) 8 s

/-- BIT 2,E (0xCB 0x53; R343). -/
def execBit_2_e (s : State) : Result := bitTest 2 (.reg .e) 8 s

/-- BIT 2,H (0xCB 0x54; R343). -/
def execBit_2_h (s : State) : Result := bitTest 2 (.reg .h) 8 s

/-- BIT 2,L (0xCB 0x55; R343). -/
def execBit_2_l (s : State) : Result := bitTest 2 (.reg .l) 8 s

/-- BIT 2,(HL) (0xCB 0x56; R343). -/
def execBit_2_atHL (s : State) : Result := bitTest 2 (.mem .atHL) 12 s

/-- BIT 2,A (0xCB 0x57; R343). -/
def execBit_2_a (s : State) : Result := bitTest 2 (.reg .a) 8 s

/-- BIT 3,B (0xCB 0x58; R343). -/
def execBit_3_b (s : State) : Result := bitTest 3 (.reg .b) 8 s

/-- BIT 3,C (0xCB 0x59; R343). -/
def execBit_3_c (s : State) : Result := bitTest 3 (.reg .c) 8 s

/-- BIT 3,D (0xCB 0x5A; R343). -/
def execBit_3_d (s : State) : Result := bitTest 3 (.reg .d) 8 s

/-- BIT 3,E (0xCB 0x5B; R343). -/
def execBit_3_e (s : State) : Result := bitTest 3 (.reg .e) 8 s

/-- BIT 3,H (0xCB 0x5C; R343). -/
def execBit_3_h (s : State) : Result := bitTest 3 (.reg .h) 8 s

/-- BIT 3,L (0xCB 0x5D; R343). -/
def execBit_3_l (s : State) : Result := bitTest 3 (.reg .l) 8 s

/-- BIT 3,(HL) (0xCB 0x5E; R343). -/
def execBit_3_atHL (s : State) : Result := bitTest 3 (.mem .atHL) 12 s

/-- BIT 3,A (0xCB 0x5F; R343). -/
def execBit_3_a (s : State) : Result := bitTest 3 (.reg .a) 8 s

/-- BIT 4,B (0xCB 0x60; R343). -/
def execBit_4_b (s : State) : Result := bitTest 4 (.reg .b) 8 s

/-- BIT 4,C (0xCB 0x61; R343). -/
def execBit_4_c (s : State) : Result := bitTest 4 (.reg .c) 8 s

/-- BIT 4,D (0xCB 0x62; R343). -/
def execBit_4_d (s : State) : Result := bitTest 4 (.reg .d) 8 s

/-- BIT 4,E (0xCB 0x63; R343). -/
def execBit_4_e (s : State) : Result := bitTest 4 (.reg .e) 8 s

/-- BIT 4,H (0xCB 0x64; R343). -/
def execBit_4_h (s : State) : Result := bitTest 4 (.reg .h) 8 s

/-- BIT 4,L (0xCB 0x65; R343). -/
def execBit_4_l (s : State) : Result := bitTest 4 (.reg .l) 8 s

/-- BIT 4,(HL) (0xCB 0x66; R343). -/
def execBit_4_atHL (s : State) : Result := bitTest 4 (.mem .atHL) 12 s

/-- BIT 4,A (0xCB 0x67; R343). -/
def execBit_4_a (s : State) : Result := bitTest 4 (.reg .a) 8 s

/-- BIT 5,B (0xCB 0x68; R343). -/
def execBit_5_b (s : State) : Result := bitTest 5 (.reg .b) 8 s

/-- BIT 5,C (0xCB 0x69; R343). -/
def execBit_5_c (s : State) : Result := bitTest 5 (.reg .c) 8 s

/-- BIT 5,D (0xCB 0x6A; R343). -/
def execBit_5_d (s : State) : Result := bitTest 5 (.reg .d) 8 s

/-- BIT 5,E (0xCB 0x6B; R343). -/
def execBit_5_e (s : State) : Result := bitTest 5 (.reg .e) 8 s

/-- BIT 5,H (0xCB 0x6C; R343). -/
def execBit_5_h (s : State) : Result := bitTest 5 (.reg .h) 8 s

/-- BIT 5,L (0xCB 0x6D; R343). -/
def execBit_5_l (s : State) : Result := bitTest 5 (.reg .l) 8 s

/-- BIT 5,(HL) (0xCB 0x6E; R343). -/
def execBit_5_atHL (s : State) : Result := bitTest 5 (.mem .atHL) 12 s

/-- BIT 5,A (0xCB 0x6F; R343). -/
def execBit_5_a (s : State) : Result := bitTest 5 (.reg .a) 8 s

/-- BIT 6,B (0xCB 0x70; R343). -/
def execBit_6_b (s : State) : Result := bitTest 6 (.reg .b) 8 s

/-- BIT 6,C (0xCB 0x71; R343). -/
def execBit_6_c (s : State) : Result := bitTest 6 (.reg .c) 8 s

/-- BIT 6,D (0xCB 0x72; R343). -/
def execBit_6_d (s : State) : Result := bitTest 6 (.reg .d) 8 s

/-- BIT 6,E (0xCB 0x73; R343). -/
def execBit_6_e (s : State) : Result := bitTest 6 (.reg .e) 8 s

/-- BIT 6,H (0xCB 0x74; R343). -/
def execBit_6_h (s : State) : Result := bitTest 6 (.reg .h) 8 s

/-- BIT 6,L (0xCB 0x75; R343). -/
def execBit_6_l (s : State) : Result := bitTest 6 (.reg .l) 8 s

/-- BIT 6,(HL) (0xCB 0x76; R343). -/
def execBit_6_atHL (s : State) : Result := bitTest 6 (.mem .atHL) 12 s

/-- BIT 6,A (0xCB 0x77; R343). -/
def execBit_6_a (s : State) : Result := bitTest 6 (.reg .a) 8 s

/-- BIT 7,B (0xCB 0x78; R343). -/
def execBit_7_b (s : State) : Result := bitTest 7 (.reg .b) 8 s

/-- BIT 7,C (0xCB 0x79; R343). -/
def execBit_7_c (s : State) : Result := bitTest 7 (.reg .c) 8 s

/-- BIT 7,D (0xCB 0x7A; R343). -/
def execBit_7_d (s : State) : Result := bitTest 7 (.reg .d) 8 s

/-- BIT 7,E (0xCB 0x7B; R343). -/
def execBit_7_e (s : State) : Result := bitTest 7 (.reg .e) 8 s

/-- BIT 7,H (0xCB 0x7C; R343). -/
def execBit_7_h (s : State) : Result := bitTest 7 (.reg .h) 8 s

/-- BIT 7,L (0xCB 0x7D; R343). -/
def execBit_7_l (s : State) : Result := bitTest 7 (.reg .l) 8 s

/-- BIT 7,(HL) (0xCB 0x7E; R343). -/
def execBit_7_atHL (s : State) : Result := bitTest 7 (.mem .atHL) 12 s

/-- BIT 7,A (0xCB 0x7F; R343). -/
def execBit_7_a (s : State) : Result := bitTest 7 (.reg .a) 8 s

/-- RES 0,B (0xCB 0x80; R344). -/
def execRes_0_b (s : State) : Result := bitClear 0 (.reg .b) 8 s

/-- RES 0,C (0xCB 0x81; R344). -/
def execRes_0_c (s : State) : Result := bitClear 0 (.reg .c) 8 s

/-- RES 0,D (0xCB 0x82; R344). -/
def execRes_0_d (s : State) : Result := bitClear 0 (.reg .d) 8 s

/-- RES 0,E (0xCB 0x83; R344). -/
def execRes_0_e (s : State) : Result := bitClear 0 (.reg .e) 8 s

/-- RES 0,H (0xCB 0x84; R344). -/
def execRes_0_h (s : State) : Result := bitClear 0 (.reg .h) 8 s

/-- RES 0,L (0xCB 0x85; R344). -/
def execRes_0_l (s : State) : Result := bitClear 0 (.reg .l) 8 s

/-- RES 0,(HL) (0xCB 0x86; R344). -/
def execRes_0_atHL (s : State) : Result := bitClear 0 (.mem .atHL) 16 s

/-- RES 0,A (0xCB 0x87; R344). -/
def execRes_0_a (s : State) : Result := bitClear 0 (.reg .a) 8 s

/-- RES 1,B (0xCB 0x88; R344). -/
def execRes_1_b (s : State) : Result := bitClear 1 (.reg .b) 8 s

/-- RES 1,C (0xCB 0x89; R344). -/
def execRes_1_c (s : State) : Result := bitClear 1 (.reg .c) 8 s

/-- RES 1,D (0xCB 0x8A; R344). -/
def execRes_1_d (s : State) : Result := bitClear 1 (.reg .d) 8 s

/-- RES 1,E (0xCB 0x8B; R344). -/
def execRes_1_e (s : State) : Result := bitClear 1 (.reg .e) 8 s

/-- RES 1,H (0xCB 0x8C; R344). -/
def execRes_1_h (s : State) : Result := bitClear 1 (.reg .h) 8 s

/-- RES 1,L (0xCB 0x8D; R344). -/
def execRes_1_l (s : State) : Result := bitClear 1 (.reg .l) 8 s

/-- RES 1,(HL) (0xCB 0x8E; R344). -/
def execRes_1_atHL (s : State) : Result := bitClear 1 (.mem .atHL) 16 s

/-- RES 1,A (0xCB 0x8F; R344). -/
def execRes_1_a (s : State) : Result := bitClear 1 (.reg .a) 8 s

/-- RES 2,B (0xCB 0x90; R344). -/
def execRes_2_b (s : State) : Result := bitClear 2 (.reg .b) 8 s

/-- RES 2,C (0xCB 0x91; R344). -/
def execRes_2_c (s : State) : Result := bitClear 2 (.reg .c) 8 s

/-- RES 2,D (0xCB 0x92; R344). -/
def execRes_2_d (s : State) : Result := bitClear 2 (.reg .d) 8 s

/-- RES 2,E (0xCB 0x93; R344). -/
def execRes_2_e (s : State) : Result := bitClear 2 (.reg .e) 8 s

/-- RES 2,H (0xCB 0x94; R344). -/
def execRes_2_h (s : State) : Result := bitClear 2 (.reg .h) 8 s

/-- RES 2,L (0xCB 0x95; R344). -/
def execRes_2_l (s : State) : Result := bitClear 2 (.reg .l) 8 s

/-- RES 2,(HL) (0xCB 0x96; R344). -/
def execRes_2_atHL (s : State) : Result := bitClear 2 (.mem .atHL) 16 s

/-- RES 2,A (0xCB 0x97; R344). -/
def execRes_2_a (s : State) : Result := bitClear 2 (.reg .a) 8 s

/-- RES 3,B (0xCB 0x98; R344). -/
def execRes_3_b (s : State) : Result := bitClear 3 (.reg .b) 8 s

/-- RES 3,C (0xCB 0x99; R344). -/
def execRes_3_c (s : State) : Result := bitClear 3 (.reg .c) 8 s

/-- RES 3,D (0xCB 0x9A; R344). -/
def execRes_3_d (s : State) : Result := bitClear 3 (.reg .d) 8 s

/-- RES 3,E (0xCB 0x9B; R344). -/
def execRes_3_e (s : State) : Result := bitClear 3 (.reg .e) 8 s

/-- RES 3,H (0xCB 0x9C; R344). -/
def execRes_3_h (s : State) : Result := bitClear 3 (.reg .h) 8 s

/-- RES 3,L (0xCB 0x9D; R344). -/
def execRes_3_l (s : State) : Result := bitClear 3 (.reg .l) 8 s

/-- RES 3,(HL) (0xCB 0x9E; R344). -/
def execRes_3_atHL (s : State) : Result := bitClear 3 (.mem .atHL) 16 s

/-- RES 3,A (0xCB 0x9F; R344). -/
def execRes_3_a (s : State) : Result := bitClear 3 (.reg .a) 8 s

/-- RES 4,B (0xCB 0xA0; R344). -/
def execRes_4_b (s : State) : Result := bitClear 4 (.reg .b) 8 s

/-- RES 4,C (0xCB 0xA1; R344). -/
def execRes_4_c (s : State) : Result := bitClear 4 (.reg .c) 8 s

/-- RES 4,D (0xCB 0xA2; R344). -/
def execRes_4_d (s : State) : Result := bitClear 4 (.reg .d) 8 s

/-- RES 4,E (0xCB 0xA3; R344). -/
def execRes_4_e (s : State) : Result := bitClear 4 (.reg .e) 8 s

/-- RES 4,H (0xCB 0xA4; R344). -/
def execRes_4_h (s : State) : Result := bitClear 4 (.reg .h) 8 s

/-- RES 4,L (0xCB 0xA5; R344). -/
def execRes_4_l (s : State) : Result := bitClear 4 (.reg .l) 8 s

/-- RES 4,(HL) (0xCB 0xA6; R344). -/
def execRes_4_atHL (s : State) : Result := bitClear 4 (.mem .atHL) 16 s

/-- RES 4,A (0xCB 0xA7; R344). -/
def execRes_4_a (s : State) : Result := bitClear 4 (.reg .a) 8 s

/-- RES 5,B (0xCB 0xA8; R344). -/
def execRes_5_b (s : State) : Result := bitClear 5 (.reg .b) 8 s

/-- RES 5,C (0xCB 0xA9; R344). -/
def execRes_5_c (s : State) : Result := bitClear 5 (.reg .c) 8 s

/-- RES 5,D (0xCB 0xAA; R344). -/
def execRes_5_d (s : State) : Result := bitClear 5 (.reg .d) 8 s

/-- RES 5,E (0xCB 0xAB; R344). -/
def execRes_5_e (s : State) : Result := bitClear 5 (.reg .e) 8 s

/-- RES 5,H (0xCB 0xAC; R344). -/
def execRes_5_h (s : State) : Result := bitClear 5 (.reg .h) 8 s

/-- RES 5,L (0xCB 0xAD; R344). -/
def execRes_5_l (s : State) : Result := bitClear 5 (.reg .l) 8 s

/-- RES 5,(HL) (0xCB 0xAE; R344). -/
def execRes_5_atHL (s : State) : Result := bitClear 5 (.mem .atHL) 16 s

/-- RES 5,A (0xCB 0xAF; R344). -/
def execRes_5_a (s : State) : Result := bitClear 5 (.reg .a) 8 s

/-- RES 6,B (0xCB 0xB0; R344). -/
def execRes_6_b (s : State) : Result := bitClear 6 (.reg .b) 8 s

/-- RES 6,C (0xCB 0xB1; R344). -/
def execRes_6_c (s : State) : Result := bitClear 6 (.reg .c) 8 s

/-- RES 6,D (0xCB 0xB2; R344). -/
def execRes_6_d (s : State) : Result := bitClear 6 (.reg .d) 8 s

/-- RES 6,E (0xCB 0xB3; R344). -/
def execRes_6_e (s : State) : Result := bitClear 6 (.reg .e) 8 s

/-- RES 6,H (0xCB 0xB4; R344). -/
def execRes_6_h (s : State) : Result := bitClear 6 (.reg .h) 8 s

/-- RES 6,L (0xCB 0xB5; R344). -/
def execRes_6_l (s : State) : Result := bitClear 6 (.reg .l) 8 s

/-- RES 6,(HL) (0xCB 0xB6; R344). -/
def execRes_6_atHL (s : State) : Result := bitClear 6 (.mem .atHL) 16 s

/-- RES 6,A (0xCB 0xB7; R344). -/
def execRes_6_a (s : State) : Result := bitClear 6 (.reg .a) 8 s

/-- RES 7,B (0xCB 0xB8; R344). -/
def execRes_7_b (s : State) : Result := bitClear 7 (.reg .b) 8 s

/-- RES 7,C (0xCB 0xB9; R344). -/
def execRes_7_c (s : State) : Result := bitClear 7 (.reg .c) 8 s

/-- RES 7,D (0xCB 0xBA; R344). -/
def execRes_7_d (s : State) : Result := bitClear 7 (.reg .d) 8 s

/-- RES 7,E (0xCB 0xBB; R344). -/
def execRes_7_e (s : State) : Result := bitClear 7 (.reg .e) 8 s

/-- RES 7,H (0xCB 0xBC; R344). -/
def execRes_7_h (s : State) : Result := bitClear 7 (.reg .h) 8 s

/-- RES 7,L (0xCB 0xBD; R344). -/
def execRes_7_l (s : State) : Result := bitClear 7 (.reg .l) 8 s

/-- RES 7,(HL) (0xCB 0xBE; R344). -/
def execRes_7_atHL (s : State) : Result := bitClear 7 (.mem .atHL) 16 s

/-- RES 7,A (0xCB 0xBF; R344). -/
def execRes_7_a (s : State) : Result := bitClear 7 (.reg .a) 8 s

/-- SET 0,B (0xCB 0xC0; R345). -/
def execSet_0_b (s : State) : Result := bitSet 0 (.reg .b) 8 s

/-- SET 0,C (0xCB 0xC1; R345). -/
def execSet_0_c (s : State) : Result := bitSet 0 (.reg .c) 8 s

/-- SET 0,D (0xCB 0xC2; R345). -/
def execSet_0_d (s : State) : Result := bitSet 0 (.reg .d) 8 s

/-- SET 0,E (0xCB 0xC3; R345). -/
def execSet_0_e (s : State) : Result := bitSet 0 (.reg .e) 8 s

/-- SET 0,H (0xCB 0xC4; R345). -/
def execSet_0_h (s : State) : Result := bitSet 0 (.reg .h) 8 s

/-- SET 0,L (0xCB 0xC5; R345). -/
def execSet_0_l (s : State) : Result := bitSet 0 (.reg .l) 8 s

/-- SET 0,(HL) (0xCB 0xC6; R345). -/
def execSet_0_atHL (s : State) : Result := bitSet 0 (.mem .atHL) 16 s

/-- SET 0,A (0xCB 0xC7; R345). -/
def execSet_0_a (s : State) : Result := bitSet 0 (.reg .a) 8 s

/-- SET 1,B (0xCB 0xC8; R345). -/
def execSet_1_b (s : State) : Result := bitSet 1 (.reg .b) 8 s

/-- SET 1,C (0xCB 0xC9; R345). -/
def execSet_1_c (s : State) : Result := bitSet 1 (.reg .c) 8 s

/-- SET 1,D (0xCB 0xCA; R345). -/
def execSet_1_d (s : State) : Result := bitSet 1 (.reg .d) 8 s

/-- SET 1,E (0xCB 0xCB; R345). -/
def execSet_1_e (s : State) : Result := bitSet 1 (.reg .e) 8 s

/-- SET 1,H (0xCB 0xCC; R345). -/
def execSet_1_h (s : State) : Result := bitSet 1 (.reg .h) 8 s

/-- SET 1,L (0xCB 0xCD; R345). -/
def execSet_1_l (s : State) : Result := bitSet 1 (.reg .l) 8 s

/-- SET 1,(HL) (0xCB 0xCE; R345). -/
def execSet_1_atHL (s : State) : Result := bitSet 1 (.mem .atHL) 16 s

/-- SET 1,A (0xCB 0xCF; R345). -/
def execSet_1_a (s : State) : Result := bitSet 1 (.reg .a) 8 s

/-- SET 2,B (0xCB 0xD0; R345). -/
def execSet_2_b (s : State) : Result := bitSet 2 (.reg .b) 8 s

/-- SET 2,C (0xCB 0xD1; R345). -/
def execSet_2_c (s : State) : Result := bitSet 2 (.reg .c) 8 s

/-- SET 2,D (0xCB 0xD2; R345). -/
def execSet_2_d (s : State) : Result := bitSet 2 (.reg .d) 8 s

/-- SET 2,E (0xCB 0xD3; R345). -/
def execSet_2_e (s : State) : Result := bitSet 2 (.reg .e) 8 s

/-- SET 2,H (0xCB 0xD4; R345). -/
def execSet_2_h (s : State) : Result := bitSet 2 (.reg .h) 8 s

/-- SET 2,L (0xCB 0xD5; R345). -/
def execSet_2_l (s : State) : Result := bitSet 2 (.reg .l) 8 s

/-- SET 2,(HL) (0xCB 0xD6; R345). -/
def execSet_2_atHL (s : State) : Result := bitSet 2 (.mem .atHL) 16 s

/-- SET 2,A (0xCB 0xD7; R345). -/
def execSet_2_a (s : State) : Result := bitSet 2 (.reg .a) 8 s

/-- SET 3,B (0xCB 0xD8; R345). -/
def execSet_3_b (s : State) : Result := bitSet 3 (.reg .b) 8 s

/-- SET 3,C (0xCB 0xD9; R345). -/
def execSet_3_c (s : State) : Result := bitSet 3 (.reg .c) 8 s

/-- SET 3,D (0xCB 0xDA; R345). -/
def execSet_3_d (s : State) : Result := bitSet 3 (.reg .d) 8 s

/-- SET 3,E (0xCB 0xDB; R345). -/
def execSet_3_e (s : State) : Result := bitSet 3 (.reg .e) 8 s

/-- SET 3,H (0xCB 0xDC; R345). -/
def execSet_3_h (s : State) : Result := bitSet 3 (.reg .h) 8 s

/-- SET 3,L (0xCB 0xDD; R345). -/
def execSet_3_l (s : State) : Result := bitSet 3 (.reg .l) 8 s

/-- SET 3,(HL) (0xCB 0xDE; R345). -/
def execSet_3_atHL (s : State) : Result := bitSet 3 (.mem .atHL) 16 s

/-- SET 3,A (0xCB 0xDF; R345). -/
def execSet_3_a (s : State) : Result := bitSet 3 (.reg .a) 8 s

/-- SET 4,B (0xCB 0xE0; R345). -/
def execSet_4_b (s : State) : Result := bitSet 4 (.reg .b) 8 s

/-- SET 4,C (0xCB 0xE1; R345). -/
def execSet_4_c (s : State) : Result := bitSet 4 (.reg .c) 8 s

/-- SET 4,D (0xCB 0xE2; R345). -/
def execSet_4_d (s : State) : Result := bitSet 4 (.reg .d) 8 s

/-- SET 4,E (0xCB 0xE3; R345). -/
def execSet_4_e (s : State) : Result := bitSet 4 (.reg .e) 8 s

/-- SET 4,H (0xCB 0xE4; R345). -/
def execSet_4_h (s : State) : Result := bitSet 4 (.reg .h) 8 s

/-- SET 4,L (0xCB 0xE5; R345). -/
def execSet_4_l (s : State) : Result := bitSet 4 (.reg .l) 8 s

/-- SET 4,(HL) (0xCB 0xE6; R345). -/
def execSet_4_atHL (s : State) : Result := bitSet 4 (.mem .atHL) 16 s

/-- SET 4,A (0xCB 0xE7; R345). -/
def execSet_4_a (s : State) : Result := bitSet 4 (.reg .a) 8 s

/-- SET 5,B (0xCB 0xE8; R345). -/
def execSet_5_b (s : State) : Result := bitSet 5 (.reg .b) 8 s

/-- SET 5,C (0xCB 0xE9; R345). -/
def execSet_5_c (s : State) : Result := bitSet 5 (.reg .c) 8 s

/-- SET 5,D (0xCB 0xEA; R345). -/
def execSet_5_d (s : State) : Result := bitSet 5 (.reg .d) 8 s

/-- SET 5,E (0xCB 0xEB; R345). -/
def execSet_5_e (s : State) : Result := bitSet 5 (.reg .e) 8 s

/-- SET 5,H (0xCB 0xEC; R345). -/
def execSet_5_h (s : State) : Result := bitSet 5 (.reg .h) 8 s

/-- SET 5,L (0xCB 0xED; R345). -/
def execSet_5_l (s : State) : Result := bitSet 5 (.reg .l) 8 s

/-- SET 5,(HL) (0xCB 0xEE; R345). -/
def execSet_5_atHL (s : State) : Result := bitSet 5 (.mem .atHL) 16 s

/-- SET 5,A (0xCB 0xEF; R345). -/
def execSet_5_a (s : State) : Result := bitSet 5 (.reg .a) 8 s

/-- SET 6,B (0xCB 0xF0; R345). -/
def execSet_6_b (s : State) : Result := bitSet 6 (.reg .b) 8 s

/-- SET 6,C (0xCB 0xF1; R345). -/
def execSet_6_c (s : State) : Result := bitSet 6 (.reg .c) 8 s

/-- SET 6,D (0xCB 0xF2; R345). -/
def execSet_6_d (s : State) : Result := bitSet 6 (.reg .d) 8 s

/-- SET 6,E (0xCB 0xF3; R345). -/
def execSet_6_e (s : State) : Result := bitSet 6 (.reg .e) 8 s

/-- SET 6,H (0xCB 0xF4; R345). -/
def execSet_6_h (s : State) : Result := bitSet 6 (.reg .h) 8 s

/-- SET 6,L (0xCB 0xF5; R345). -/
def execSet_6_l (s : State) : Result := bitSet 6 (.reg .l) 8 s

/-- SET 6,(HL) (0xCB 0xF6; R345). -/
def execSet_6_atHL (s : State) : Result := bitSet 6 (.mem .atHL) 16 s

/-- SET 6,A (0xCB 0xF7; R345). -/
def execSet_6_a (s : State) : Result := bitSet 6 (.reg .a) 8 s

/-- SET 7,B (0xCB 0xF8; R345). -/
def execSet_7_b (s : State) : Result := bitSet 7 (.reg .b) 8 s

/-- SET 7,C (0xCB 0xF9; R345). -/
def execSet_7_c (s : State) : Result := bitSet 7 (.reg .c) 8 s

/-- SET 7,D (0xCB 0xFA; R345). -/
def execSet_7_d (s : State) : Result := bitSet 7 (.reg .d) 8 s

/-- SET 7,E (0xCB 0xFB; R345). -/
def execSet_7_e (s : State) : Result := bitSet 7 (.reg .e) 8 s

/-- SET 7,H (0xCB 0xFC; R345). -/
def execSet_7_h (s : State) : Result := bitSet 7 (.reg .h) 8 s

/-- SET 7,L (0xCB 0xFD; R345). -/
def execSet_7_l (s : State) : Result := bitSet 7 (.reg .l) 8 s

/-- SET 7,(HL) (0xCB 0xFE; R345). -/
def execSet_7_atHL (s : State) : Result := bitSet 7 (.mem .atHL) 16 s

/-- SET 7,A (0xCB 0xFF; R345). -/
def execSet_7_a (s : State) : Result := bitSet 7 (.reg .a) 8 s

end Sys2Proof.Machine
end

