-- ==== Sys2Proof/Machine/Control.lean ====
section
/-! DEFINITION. Control transfer (44_control.md, R380 to R391): the shared operations, then one meaning per instruction. PC is past
the instruction's bytes when a meaning runs. The numbers in each are the cycle counts of its row, taken and not taken
(R497). None writes a flag (R380). -/

namespace Sys2Proof.Machine

/-- `if Cond(k) then PC <- target` (R381 to R383). -/
def jump (k : Cond) (target : Word) (taken notTaken : Nat) (s : State) : Result :=
  if s.cond k then { s with pc := target }.complete taken else s.complete notTaken

/-- `if Cond(k) then PC <- (PC + sext_16(e)) mod 2^16` (R384, R385); the base is the address after the displacement. -/
def jumpRelative (k : Cond) (e : Byte) (taken notTaken : Nat) (s : State) : Result :=
  if s.cond k then { s with pc := s.pc + sext16 e }.complete taken else s.complete notTaken

/-- `if Cond(k) then { Push16(PC); PC <- target }` (R386 to R388). -/
def call (k : Cond) (target : Word) (taken notTaken : Nat) (s : State) : Result :=
  if s.cond k then { s.push16 s.pc with pc := target }.complete taken else s.complete notTaken

/-- `if Cond(k) then PC <- Pop16()` (R389, R390). -/
def ret (k : Cond) (taken notTaken : Nat) (s : State) : Result :=
  if s.cond k then
    let (v, s1) := s.pop16
    { s1 with pc := v }.complete taken
  else s.complete notTaken

/-- RETI (R391): `PC <- Pop16(); IME <- 1`, with no delay. It restores nothing else (R457). -/
def retEnable (cycles : Nat) (s : State) : Result :=
  let (v, s1) := s.pop16
  { s1 with pc := v, ime := true }.complete cycles

/-- JP n16 (0xC3; R381). -/
def execJp_n16 (n : Word) (s : State) : Result := jump .always n 16 16 s

/-- JP NZ,n16 (0xC2; R382). -/
def execJp_nz_n16 (n : Word) (s : State) : Result := jump .nz n 16 12 s

/-- JP Z,n16 (0xCA; R382). -/
def execJp_z_n16 (n : Word) (s : State) : Result := jump .z n 16 12 s

/-- JP NC,n16 (0xD2; R382). -/
def execJp_nc_n16 (n : Word) (s : State) : Result := jump .nc n 16 12 s

/-- JP C,n16 (0xDA; R382). -/
def execJp_c_n16 (n : Word) (s : State) : Result := jump .c n 16 12 s

/-- JP HL (0xE9; R383). -/
def execJp_hl (s : State) : Result := jump .always s.hl 4 4 s

/-- JR e8 (0x18; R384). -/
def execJr_e8 (e : Byte) (s : State) : Result := jumpRelative .always e 12 12 s

/-- JR NZ,e8 (0x20; R385). -/
def execJr_nz_e8 (e : Byte) (s : State) : Result := jumpRelative .nz e 12 8 s

/-- JR Z,e8 (0x28; R385). -/
def execJr_z_e8 (e : Byte) (s : State) : Result := jumpRelative .z e 12 8 s

/-- JR NC,e8 (0x30; R385). -/
def execJr_nc_e8 (e : Byte) (s : State) : Result := jumpRelative .nc e 12 8 s

/-- JR C,e8 (0x38; R385). -/
def execJr_c_e8 (e : Byte) (s : State) : Result := jumpRelative .c e 12 8 s

/-- CALL n16 (0xCD; R386). -/
def execCall_n16 (n : Word) (s : State) : Result := call .always n 24 24 s

/-- CALL NZ,n16 (0xC4; R387). -/
def execCall_nz_n16 (n : Word) (s : State) : Result := call .nz n 24 12 s

/-- CALL Z,n16 (0xCC; R387). -/
def execCall_z_n16 (n : Word) (s : State) : Result := call .z n 24 12 s

/-- CALL NC,n16 (0xD4; R387). -/
def execCall_nc_n16 (n : Word) (s : State) : Result := call .nc n 24 12 s

/-- CALL C,n16 (0xDC; R387). -/
def execCall_c_n16 (n : Word) (s : State) : Result := call .c n 24 12 s

/-- RST 0x00 (0xC7; R388). -/
def execRst_00 (s : State) : Result := call .always 0x00 16 16 s

/-- RST 0x08 (0xCF; R388). -/
def execRst_08 (s : State) : Result := call .always 0x08 16 16 s

/-- RST 0x10 (0xD7; R388). -/
def execRst_10 (s : State) : Result := call .always 0x10 16 16 s

/-- RST 0x18 (0xDF; R388). -/
def execRst_18 (s : State) : Result := call .always 0x18 16 16 s

/-- RST 0x20 (0xE7; R388). -/
def execRst_20 (s : State) : Result := call .always 0x20 16 16 s

/-- RST 0x28 (0xEF; R388). -/
def execRst_28 (s : State) : Result := call .always 0x28 16 16 s

/-- RST 0x30 (0xF7; R388). -/
def execRst_30 (s : State) : Result := call .always 0x30 16 16 s

/-- RST 0x38 (0xFF; R388). -/
def execRst_38 (s : State) : Result := call .always 0x38 16 16 s

/-- RET (0xC9; R389). -/
def execRet (s : State) : Result := ret .always 16 16 s

/-- RET NZ (0xC0; R390). -/
def execRet_nz (s : State) : Result := ret .nz 20 8 s

/-- RET Z (0xC8; R390). -/
def execRet_z (s : State) : Result := ret .z 20 8 s

/-- RET NC (0xD0; R390). -/
def execRet_nc (s : State) : Result := ret .nc 20 8 s

/-- RET C (0xD8; R390). -/
def execRet_c (s : State) : Result := ret .c 20 8 s

/-- RETI (0xD9; R391). -/
def execReti (s : State) : Result := retEnable 16 s

end Sys2Proof.Machine
end

