-- ==== Sys2Proof/Machine/Loads.lean ====
section
/-! DEFINITION. Loads, stores and stack transfers (40_loads.md, R200 to R225): the shared operations, then one meaning per
instruction. The number in each is the cycle count of its row (R497). None writes a flag but LD HL,SP+e8 and POP AF. -/

namespace Sys2Proof.Machine

/-- `dst <- src` for the 8-bit loads (R200 to R218): the source is read, then the destination written. -/
def load8 (dst : Operand8) (src : Source8) (cycles : Nat) (s : State) : Result :=
  let (v, s1) := s.readSource src
  (s1.writeOperand dst v).complete cycles

/-- `rr <- v` (R219, R221). -/
def load16 (dst : Reg16) (v : Word) (cycles : Nat) (s : State) : Result := (s.setReg16 dst v).complete cycles

/-- LD (a16),SP (R220): the low byte at the address, then the high byte at the next, modulo 2^16. -/
def storeSP (addr : Word) (cycles : Nat) (s : State) : Result :=
  ((s.memWrite addr (loByte s.sp)).memWrite (addr + 1) (hiByte s.sp)).complete cycles

/-- LD HL,SP+e8 (R222): HL gets the sum of R300, and its flags are written; SP is unchanged. -/
def loadHLSP (e : Byte) (cycles : Nat) (s : State) : Result :=
  let (v, f) := spAddE8 s.sp e
  { s.setHL v with f := f }.complete cycles

/-- PUSH rr (R223). -/
def pushReg (r : StackReg) (cycles : Nat) (s : State) : Result := (s.push16 (s.stackReg r)).complete cycles

/-- POP rr (R224, R225). -/
def popReg (r : StackReg) (cycles : Nat) (s : State) : Result :=
  let (v, s1) := s.pop16
  (s1.setStackReg r v).complete cycles

/-- LD B,B (0x40; R200). -/
def execLd_b_b (s : State) : Result := load8 (.reg .b) (.opnd (.reg .b)) 4 s

/-- LD B,C (0x41; R200). -/
def execLd_b_c (s : State) : Result := load8 (.reg .b) (.opnd (.reg .c)) 4 s

/-- LD B,D (0x42; R200). -/
def execLd_b_d (s : State) : Result := load8 (.reg .b) (.opnd (.reg .d)) 4 s

/-- LD B,E (0x43; R200). -/
def execLd_b_e (s : State) : Result := load8 (.reg .b) (.opnd (.reg .e)) 4 s

/-- LD B,H (0x44; R200). -/
def execLd_b_h (s : State) : Result := load8 (.reg .b) (.opnd (.reg .h)) 4 s

/-- LD B,L (0x45; R200). -/
def execLd_b_l (s : State) : Result := load8 (.reg .b) (.opnd (.reg .l)) 4 s

/-- LD B,A (0x47; R200). -/
def execLd_b_a (s : State) : Result := load8 (.reg .b) (.opnd (.reg .a)) 4 s

/-- LD C,B (0x48; R200). -/
def execLd_c_b (s : State) : Result := load8 (.reg .c) (.opnd (.reg .b)) 4 s

/-- LD C,C (0x49; R200). -/
def execLd_c_c (s : State) : Result := load8 (.reg .c) (.opnd (.reg .c)) 4 s

/-- LD C,D (0x4A; R200). -/
def execLd_c_d (s : State) : Result := load8 (.reg .c) (.opnd (.reg .d)) 4 s

/-- LD C,E (0x4B; R200). -/
def execLd_c_e (s : State) : Result := load8 (.reg .c) (.opnd (.reg .e)) 4 s

/-- LD C,H (0x4C; R200). -/
def execLd_c_h (s : State) : Result := load8 (.reg .c) (.opnd (.reg .h)) 4 s

/-- LD C,L (0x4D; R200). -/
def execLd_c_l (s : State) : Result := load8 (.reg .c) (.opnd (.reg .l)) 4 s

/-- LD C,A (0x4F; R200). -/
def execLd_c_a (s : State) : Result := load8 (.reg .c) (.opnd (.reg .a)) 4 s

/-- LD D,B (0x50; R200). -/
def execLd_d_b (s : State) : Result := load8 (.reg .d) (.opnd (.reg .b)) 4 s

/-- LD D,C (0x51; R200). -/
def execLd_d_c (s : State) : Result := load8 (.reg .d) (.opnd (.reg .c)) 4 s

/-- LD D,D (0x52; R200). -/
def execLd_d_d (s : State) : Result := load8 (.reg .d) (.opnd (.reg .d)) 4 s

/-- LD D,E (0x53; R200). -/
def execLd_d_e (s : State) : Result := load8 (.reg .d) (.opnd (.reg .e)) 4 s

/-- LD D,H (0x54; R200). -/
def execLd_d_h (s : State) : Result := load8 (.reg .d) (.opnd (.reg .h)) 4 s

/-- LD D,L (0x55; R200). -/
def execLd_d_l (s : State) : Result := load8 (.reg .d) (.opnd (.reg .l)) 4 s

/-- LD D,A (0x57; R200). -/
def execLd_d_a (s : State) : Result := load8 (.reg .d) (.opnd (.reg .a)) 4 s

/-- LD E,B (0x58; R200). -/
def execLd_e_b (s : State) : Result := load8 (.reg .e) (.opnd (.reg .b)) 4 s

/-- LD E,C (0x59; R200). -/
def execLd_e_c (s : State) : Result := load8 (.reg .e) (.opnd (.reg .c)) 4 s

/-- LD E,D (0x5A; R200). -/
def execLd_e_d (s : State) : Result := load8 (.reg .e) (.opnd (.reg .d)) 4 s

/-- LD E,E (0x5B; R200). -/
def execLd_e_e (s : State) : Result := load8 (.reg .e) (.opnd (.reg .e)) 4 s

/-- LD E,H (0x5C; R200). -/
def execLd_e_h (s : State) : Result := load8 (.reg .e) (.opnd (.reg .h)) 4 s

/-- LD E,L (0x5D; R200). -/
def execLd_e_l (s : State) : Result := load8 (.reg .e) (.opnd (.reg .l)) 4 s

/-- LD E,A (0x5F; R200). -/
def execLd_e_a (s : State) : Result := load8 (.reg .e) (.opnd (.reg .a)) 4 s

/-- LD H,B (0x60; R200). -/
def execLd_h_b (s : State) : Result := load8 (.reg .h) (.opnd (.reg .b)) 4 s

/-- LD H,C (0x61; R200). -/
def execLd_h_c (s : State) : Result := load8 (.reg .h) (.opnd (.reg .c)) 4 s

/-- LD H,D (0x62; R200). -/
def execLd_h_d (s : State) : Result := load8 (.reg .h) (.opnd (.reg .d)) 4 s

/-- LD H,E (0x63; R200). -/
def execLd_h_e (s : State) : Result := load8 (.reg .h) (.opnd (.reg .e)) 4 s

/-- LD H,H (0x64; R200). -/
def execLd_h_h (s : State) : Result := load8 (.reg .h) (.opnd (.reg .h)) 4 s

/-- LD H,L (0x65; R200). -/
def execLd_h_l (s : State) : Result := load8 (.reg .h) (.opnd (.reg .l)) 4 s

/-- LD H,A (0x67; R200). -/
def execLd_h_a (s : State) : Result := load8 (.reg .h) (.opnd (.reg .a)) 4 s

/-- LD L,B (0x68; R200). -/
def execLd_l_b (s : State) : Result := load8 (.reg .l) (.opnd (.reg .b)) 4 s

/-- LD L,C (0x69; R200). -/
def execLd_l_c (s : State) : Result := load8 (.reg .l) (.opnd (.reg .c)) 4 s

/-- LD L,D (0x6A; R200). -/
def execLd_l_d (s : State) : Result := load8 (.reg .l) (.opnd (.reg .d)) 4 s

/-- LD L,E (0x6B; R200). -/
def execLd_l_e (s : State) : Result := load8 (.reg .l) (.opnd (.reg .e)) 4 s

/-- LD L,H (0x6C; R200). -/
def execLd_l_h (s : State) : Result := load8 (.reg .l) (.opnd (.reg .h)) 4 s

/-- LD L,L (0x6D; R200). -/
def execLd_l_l (s : State) : Result := load8 (.reg .l) (.opnd (.reg .l)) 4 s

/-- LD L,A (0x6F; R200). -/
def execLd_l_a (s : State) : Result := load8 (.reg .l) (.opnd (.reg .a)) 4 s

/-- LD A,B (0x78; R200). -/
def execLd_a_b (s : State) : Result := load8 (.reg .a) (.opnd (.reg .b)) 4 s

/-- LD A,C (0x79; R200). -/
def execLd_a_c (s : State) : Result := load8 (.reg .a) (.opnd (.reg .c)) 4 s

/-- LD A,D (0x7A; R200). -/
def execLd_a_d (s : State) : Result := load8 (.reg .a) (.opnd (.reg .d)) 4 s

/-- LD A,E (0x7B; R200). -/
def execLd_a_e (s : State) : Result := load8 (.reg .a) (.opnd (.reg .e)) 4 s

/-- LD A,H (0x7C; R200). -/
def execLd_a_h (s : State) : Result := load8 (.reg .a) (.opnd (.reg .h)) 4 s

/-- LD A,L (0x7D; R200). -/
def execLd_a_l (s : State) : Result := load8 (.reg .a) (.opnd (.reg .l)) 4 s

/-- LD A,A (0x7F; R200). -/
def execLd_a_a (s : State) : Result := load8 (.reg .a) (.opnd (.reg .a)) 4 s

/-- LD B,(HL) (0x46; R201). -/
def execLd_b_atHL (s : State) : Result := load8 (.reg .b) (.opnd (.mem .atHL)) 8 s

/-- LD C,(HL) (0x4E; R201). -/
def execLd_c_atHL (s : State) : Result := load8 (.reg .c) (.opnd (.mem .atHL)) 8 s

/-- LD D,(HL) (0x56; R201). -/
def execLd_d_atHL (s : State) : Result := load8 (.reg .d) (.opnd (.mem .atHL)) 8 s

/-- LD E,(HL) (0x5E; R201). -/
def execLd_e_atHL (s : State) : Result := load8 (.reg .e) (.opnd (.mem .atHL)) 8 s

/-- LD H,(HL) (0x66; R201). -/
def execLd_h_atHL (s : State) : Result := load8 (.reg .h) (.opnd (.mem .atHL)) 8 s

/-- LD L,(HL) (0x6E; R201). -/
def execLd_l_atHL (s : State) : Result := load8 (.reg .l) (.opnd (.mem .atHL)) 8 s

/-- LD A,(HL) (0x7E; R201). -/
def execLd_a_atHL (s : State) : Result := load8 (.reg .a) (.opnd (.mem .atHL)) 8 s

/-- LD (HL),B (0x70; R202). -/
def execLd_atHL_b (s : State) : Result := load8 (.mem .atHL) (.opnd (.reg .b)) 8 s

/-- LD (HL),C (0x71; R202). -/
def execLd_atHL_c (s : State) : Result := load8 (.mem .atHL) (.opnd (.reg .c)) 8 s

/-- LD (HL),D (0x72; R202). -/
def execLd_atHL_d (s : State) : Result := load8 (.mem .atHL) (.opnd (.reg .d)) 8 s

/-- LD (HL),E (0x73; R202). -/
def execLd_atHL_e (s : State) : Result := load8 (.mem .atHL) (.opnd (.reg .e)) 8 s

/-- LD (HL),H (0x74; R202). -/
def execLd_atHL_h (s : State) : Result := load8 (.mem .atHL) (.opnd (.reg .h)) 8 s

/-- LD (HL),L (0x75; R202). -/
def execLd_atHL_l (s : State) : Result := load8 (.mem .atHL) (.opnd (.reg .l)) 8 s

/-- LD (HL),A (0x77; R202). -/
def execLd_atHL_a (s : State) : Result := load8 (.mem .atHL) (.opnd (.reg .a)) 8 s

/-- LD B,n8 (0x06; R203). -/
def execLd_b_n8 (n : Byte) (s : State) : Result := load8 (.reg .b) (.imm8 n) 8 s

/-- LD C,n8 (0x0E; R203). -/
def execLd_c_n8 (n : Byte) (s : State) : Result := load8 (.reg .c) (.imm8 n) 8 s

/-- LD D,n8 (0x16; R203). -/
def execLd_d_n8 (n : Byte) (s : State) : Result := load8 (.reg .d) (.imm8 n) 8 s

/-- LD E,n8 (0x1E; R203). -/
def execLd_e_n8 (n : Byte) (s : State) : Result := load8 (.reg .e) (.imm8 n) 8 s

/-- LD H,n8 (0x26; R203). -/
def execLd_h_n8 (n : Byte) (s : State) : Result := load8 (.reg .h) (.imm8 n) 8 s

/-- LD L,n8 (0x2E; R203). -/
def execLd_l_n8 (n : Byte) (s : State) : Result := load8 (.reg .l) (.imm8 n) 8 s

/-- LD A,n8 (0x3E; R203). -/
def execLd_a_n8 (n : Byte) (s : State) : Result := load8 (.reg .a) (.imm8 n) 8 s

/-- LD (HL),n8 (0x36; R204). -/
def execLd_atHL_n8 (n : Byte) (s : State) : Result := load8 (.mem .atHL) (.imm8 n) 12 s

/-- LD A,(BC) (0x0A; R205). -/
def execLd_a_atBC (s : State) : Result := load8 (.reg .a) (.opnd (.mem .atBC)) 8 s

/-- LD A,(DE) (0x1A; R206). -/
def execLd_a_atDE (s : State) : Result := load8 (.reg .a) (.opnd (.mem .atDE)) 8 s

/-- LD (BC),A (0x02; R207). -/
def execLd_atBC_a (s : State) : Result := load8 (.mem .atBC) (.opnd (.reg .a)) 8 s

/-- LD (DE),A (0x12; R208). -/
def execLd_atDE_a (s : State) : Result := load8 (.mem .atDE) (.opnd (.reg .a)) 8 s

/-- LD A,(HL+) (0x2A; R209). -/
def execLd_a_atHLInc (s : State) : Result := load8 (.reg .a) (.opnd (.mem .atHLInc)) 8 s

/-- LD A,(HL-) (0x3A; R210). -/
def execLd_a_atHLDec (s : State) : Result := load8 (.reg .a) (.opnd (.mem .atHLDec)) 8 s

/-- LD (HL+),A (0x22; R211). -/
def execLd_atHLInc_a (s : State) : Result := load8 (.mem .atHLInc) (.opnd (.reg .a)) 8 s

/-- LD (HL-),A (0x32; R212). -/
def execLd_atHLDec_a (s : State) : Result := load8 (.mem .atHLDec) (.opnd (.reg .a)) 8 s

/-- LD A,(a16) (0xFA; R213). -/
def execLd_a_atA16 (addr : Word) (s : State) : Result := load8 (.reg .a) (.opnd (.mem (.atA16 addr))) 16 s

/-- LD (a16),A (0xEA; R214). -/
def execLd_atA16_a (addr : Word) (s : State) : Result := load8 (.mem (.atA16 addr)) (.opnd (.reg .a)) 16 s

/-- LDH A,(a8) (0xF0; R215). -/
def execLdh_a_atA8 (o : Byte) (s : State) : Result := load8 (.reg .a) (.opnd (.mem (.atA8 o))) 12 s

/-- LDH (a8),A (0xE0; R216). -/
def execLdh_atA8_a (o : Byte) (s : State) : Result := load8 (.mem (.atA8 o)) (.opnd (.reg .a)) 12 s

/-- LD A,(C) (0xF2; R217). -/
def execLd_a_atC (s : State) : Result := load8 (.reg .a) (.opnd (.mem .atC)) 8 s

/-- LD (C),A (0xE2; R218). -/
def execLd_atC_a (s : State) : Result := load8 (.mem .atC) (.opnd (.reg .a)) 8 s

/-- LD BC,n16 (0x01; R219). -/
def execLd_bc_n16 (n : Word) (s : State) : Result := load16 .bc n 12 s

/-- LD DE,n16 (0x11; R219). -/
def execLd_de_n16 (n : Word) (s : State) : Result := load16 .de n 12 s

/-- LD HL,n16 (0x21; R219). -/
def execLd_hl_n16 (n : Word) (s : State) : Result := load16 .hl n 12 s

/-- LD SP,n16 (0x31; R219). -/
def execLd_sp_n16 (n : Word) (s : State) : Result := load16 .sp n 12 s

/-- LD (a16),SP (0x08; R220). -/
def execLd_atA16_sp (addr : Word) (s : State) : Result := storeSP addr 20 s

/-- LD SP,HL (0xF9; R221). -/
def execLd_sp_hl (s : State) : Result := load16 .sp s.hl 8 s

/-- LD HL,SP+e8 (0xF8; R222). -/
def execLd_hl_spPlusE8 (e : Byte) (s : State) : Result := loadHLSP e 12 s

/-- PUSH BC (0xC5; R223). -/
def execPush_bc (s : State) : Result := pushReg .bc 16 s

/-- PUSH DE (0xD5; R223). -/
def execPush_de (s : State) : Result := pushReg .de 16 s

/-- PUSH HL (0xE5; R223). -/
def execPush_hl (s : State) : Result := pushReg .hl 16 s

/-- PUSH AF (0xF5; R223). -/
def execPush_af (s : State) : Result := pushReg .af 16 s

/-- POP BC (0xC1; R224). -/
def execPop_bc (s : State) : Result := popReg .bc 12 s

/-- POP DE (0xD1; R224). -/
def execPop_de (s : State) : Result := popReg .de 12 s

/-- POP HL (0xE1; R224). -/
def execPop_hl (s : State) : Result := popReg .hl 12 s

/-- POP AF (0xF1; R225). -/
def execPop_af (s : State) : Result := popReg .af 12 s

end Sys2Proof.Machine
end

