-- ==== Sys2Proof/Machine/Rotate.lean ====
section
/-! DEFINITION. Rotates and shifts (43_rotate_shift_bit.md, R330 to R342): the shared operations, then one meaning per
instruction. The number in each is the cycle count of its row (R497). -/

namespace Sys2Proof.Machine

/-- RLCA, RRCA, RLA, RRA (R330 to R333): Z, N and H become 0, whatever the result. -/
def rotateAcc (op : ShiftOp) (cycles : Nat) (s : State) : Result :=
  let (w, out) := op.apply s.a s.f.c
  { s with a := w, f := accRotateFlags out }.complete cycles

/-- The prefixed rotates and shifts (R334 to R342): read, write back, flags. -/
def shiftOperand (op : ShiftOp) (o : Operand8) (cycles : Nat) (s : State) : Result :=
  let (v, s1) := s.readOperand o
  let (w, out) := op.apply v s1.f.c
  { s1.writeOperand o w with f := shiftFlags w out }.complete cycles

/-- RLCA (0x07; R330). -/
def execRlca (s : State) : Result := rotateAcc .rlc 4 s

/-- RRCA (0x0F; R331). -/
def execRrca (s : State) : Result := rotateAcc .rrc 4 s

/-- RLA (0x17; R332). -/
def execRla (s : State) : Result := rotateAcc .rl 4 s

/-- RRA (0x1F; R333). -/
def execRra (s : State) : Result := rotateAcc .rr 4 s

/-- RLC B (0xCB 0x00; R335). -/
def execRlc_b (s : State) : Result := shiftOperand .rlc (.reg .b) 8 s

/-- RLC C (0xCB 0x01; R335). -/
def execRlc_c (s : State) : Result := shiftOperand .rlc (.reg .c) 8 s

/-- RLC D (0xCB 0x02; R335). -/
def execRlc_d (s : State) : Result := shiftOperand .rlc (.reg .d) 8 s

/-- RLC E (0xCB 0x03; R335). -/
def execRlc_e (s : State) : Result := shiftOperand .rlc (.reg .e) 8 s

/-- RLC H (0xCB 0x04; R335). -/
def execRlc_h (s : State) : Result := shiftOperand .rlc (.reg .h) 8 s

/-- RLC L (0xCB 0x05; R335). -/
def execRlc_l (s : State) : Result := shiftOperand .rlc (.reg .l) 8 s

/-- RLC (HL) (0xCB 0x06; R335). -/
def execRlc_atHL (s : State) : Result := shiftOperand .rlc (.mem .atHL) 16 s

/-- RLC A (0xCB 0x07; R335). -/
def execRlc_a (s : State) : Result := shiftOperand .rlc (.reg .a) 8 s

/-- RRC B (0xCB 0x08; R336). -/
def execRrc_b (s : State) : Result := shiftOperand .rrc (.reg .b) 8 s

/-- RRC C (0xCB 0x09; R336). -/
def execRrc_c (s : State) : Result := shiftOperand .rrc (.reg .c) 8 s

/-- RRC D (0xCB 0x0A; R336). -/
def execRrc_d (s : State) : Result := shiftOperand .rrc (.reg .d) 8 s

/-- RRC E (0xCB 0x0B; R336). -/
def execRrc_e (s : State) : Result := shiftOperand .rrc (.reg .e) 8 s

/-- RRC H (0xCB 0x0C; R336). -/
def execRrc_h (s : State) : Result := shiftOperand .rrc (.reg .h) 8 s

/-- RRC L (0xCB 0x0D; R336). -/
def execRrc_l (s : State) : Result := shiftOperand .rrc (.reg .l) 8 s

/-- RRC (HL) (0xCB 0x0E; R336). -/
def execRrc_atHL (s : State) : Result := shiftOperand .rrc (.mem .atHL) 16 s

/-- RRC A (0xCB 0x0F; R336). -/
def execRrc_a (s : State) : Result := shiftOperand .rrc (.reg .a) 8 s

/-- RL B (0xCB 0x10; R337). -/
def execRl_b (s : State) : Result := shiftOperand .rl (.reg .b) 8 s

/-- RL C (0xCB 0x11; R337). -/
def execRl_c (s : State) : Result := shiftOperand .rl (.reg .c) 8 s

/-- RL D (0xCB 0x12; R337). -/
def execRl_d (s : State) : Result := shiftOperand .rl (.reg .d) 8 s

/-- RL E (0xCB 0x13; R337). -/
def execRl_e (s : State) : Result := shiftOperand .rl (.reg .e) 8 s

/-- RL H (0xCB 0x14; R337). -/
def execRl_h (s : State) : Result := shiftOperand .rl (.reg .h) 8 s

/-- RL L (0xCB 0x15; R337). -/
def execRl_l (s : State) : Result := shiftOperand .rl (.reg .l) 8 s

/-- RL (HL) (0xCB 0x16; R337). -/
def execRl_atHL (s : State) : Result := shiftOperand .rl (.mem .atHL) 16 s

/-- RL A (0xCB 0x17; R337). -/
def execRl_a (s : State) : Result := shiftOperand .rl (.reg .a) 8 s

/-- RR B (0xCB 0x18; R338). -/
def execRr_b (s : State) : Result := shiftOperand .rr (.reg .b) 8 s

/-- RR C (0xCB 0x19; R338). -/
def execRr_c (s : State) : Result := shiftOperand .rr (.reg .c) 8 s

/-- RR D (0xCB 0x1A; R338). -/
def execRr_d (s : State) : Result := shiftOperand .rr (.reg .d) 8 s

/-- RR E (0xCB 0x1B; R338). -/
def execRr_e (s : State) : Result := shiftOperand .rr (.reg .e) 8 s

/-- RR H (0xCB 0x1C; R338). -/
def execRr_h (s : State) : Result := shiftOperand .rr (.reg .h) 8 s

/-- RR L (0xCB 0x1D; R338). -/
def execRr_l (s : State) : Result := shiftOperand .rr (.reg .l) 8 s

/-- RR (HL) (0xCB 0x1E; R338). -/
def execRr_atHL (s : State) : Result := shiftOperand .rr (.mem .atHL) 16 s

/-- RR A (0xCB 0x1F; R338). -/
def execRr_a (s : State) : Result := shiftOperand .rr (.reg .a) 8 s

/-- SLA B (0xCB 0x20; R339). -/
def execSla_b (s : State) : Result := shiftOperand .sla (.reg .b) 8 s

/-- SLA C (0xCB 0x21; R339). -/
def execSla_c (s : State) : Result := shiftOperand .sla (.reg .c) 8 s

/-- SLA D (0xCB 0x22; R339). -/
def execSla_d (s : State) : Result := shiftOperand .sla (.reg .d) 8 s

/-- SLA E (0xCB 0x23; R339). -/
def execSla_e (s : State) : Result := shiftOperand .sla (.reg .e) 8 s

/-- SLA H (0xCB 0x24; R339). -/
def execSla_h (s : State) : Result := shiftOperand .sla (.reg .h) 8 s

/-- SLA L (0xCB 0x25; R339). -/
def execSla_l (s : State) : Result := shiftOperand .sla (.reg .l) 8 s

/-- SLA (HL) (0xCB 0x26; R339). -/
def execSla_atHL (s : State) : Result := shiftOperand .sla (.mem .atHL) 16 s

/-- SLA A (0xCB 0x27; R339). -/
def execSla_a (s : State) : Result := shiftOperand .sla (.reg .a) 8 s

/-- SRA B (0xCB 0x28; R340). -/
def execSra_b (s : State) : Result := shiftOperand .sra (.reg .b) 8 s

/-- SRA C (0xCB 0x29; R340). -/
def execSra_c (s : State) : Result := shiftOperand .sra (.reg .c) 8 s

/-- SRA D (0xCB 0x2A; R340). -/
def execSra_d (s : State) : Result := shiftOperand .sra (.reg .d) 8 s

/-- SRA E (0xCB 0x2B; R340). -/
def execSra_e (s : State) : Result := shiftOperand .sra (.reg .e) 8 s

/-- SRA H (0xCB 0x2C; R340). -/
def execSra_h (s : State) : Result := shiftOperand .sra (.reg .h) 8 s

/-- SRA L (0xCB 0x2D; R340). -/
def execSra_l (s : State) : Result := shiftOperand .sra (.reg .l) 8 s

/-- SRA (HL) (0xCB 0x2E; R340). -/
def execSra_atHL (s : State) : Result := shiftOperand .sra (.mem .atHL) 16 s

/-- SRA A (0xCB 0x2F; R340). -/
def execSra_a (s : State) : Result := shiftOperand .sra (.reg .a) 8 s

/-- SWAP B (0xCB 0x30; R341). -/
def execSwap_b (s : State) : Result := shiftOperand .swap (.reg .b) 8 s

/-- SWAP C (0xCB 0x31; R341). -/
def execSwap_c (s : State) : Result := shiftOperand .swap (.reg .c) 8 s

/-- SWAP D (0xCB 0x32; R341). -/
def execSwap_d (s : State) : Result := shiftOperand .swap (.reg .d) 8 s

/-- SWAP E (0xCB 0x33; R341). -/
def execSwap_e (s : State) : Result := shiftOperand .swap (.reg .e) 8 s

/-- SWAP H (0xCB 0x34; R341). -/
def execSwap_h (s : State) : Result := shiftOperand .swap (.reg .h) 8 s

/-- SWAP L (0xCB 0x35; R341). -/
def execSwap_l (s : State) : Result := shiftOperand .swap (.reg .l) 8 s

/-- SWAP (HL) (0xCB 0x36; R341). -/
def execSwap_atHL (s : State) : Result := shiftOperand .swap (.mem .atHL) 16 s

/-- SWAP A (0xCB 0x37; R341). -/
def execSwap_a (s : State) : Result := shiftOperand .swap (.reg .a) 8 s

/-- SRL B (0xCB 0x38; R342). -/
def execSrl_b (s : State) : Result := shiftOperand .srl (.reg .b) 8 s

/-- SRL C (0xCB 0x39; R342). -/
def execSrl_c (s : State) : Result := shiftOperand .srl (.reg .c) 8 s

/-- SRL D (0xCB 0x3A; R342). -/
def execSrl_d (s : State) : Result := shiftOperand .srl (.reg .d) 8 s

/-- SRL E (0xCB 0x3B; R342). -/
def execSrl_e (s : State) : Result := shiftOperand .srl (.reg .e) 8 s

/-- SRL H (0xCB 0x3C; R342). -/
def execSrl_h (s : State) : Result := shiftOperand .srl (.reg .h) 8 s

/-- SRL L (0xCB 0x3D; R342). -/
def execSrl_l (s : State) : Result := shiftOperand .srl (.reg .l) 8 s

/-- SRL (HL) (0xCB 0x3E; R342). -/
def execSrl_atHL (s : State) : Result := shiftOperand .srl (.mem .atHL) 16 s

/-- SRL A (0xCB 0x3F; R342). -/
def execSrl_a (s : State) : Result := shiftOperand .srl (.reg .a) 8 s

end Sys2Proof.Machine
end

