-- ==== Sys2Proof/Machine/System.lean ====
section
/-! DEFINITION. System instructions (45_system.md, R420 to R426): the shared operations, then one meaning per instruction. The
number in each is the cycle count of its row (R497). -/

namespace Sys2Proof.Machine

/-- HALT (R421): sets `halted`. -/
def enterHalt (cycles : Nat) (s : State) : Result := { s with halted := true }.complete cycles

/-- STOP (R422): sets `stopped`. Its second byte, where it has one, was fetched and is ignored. -/
def enterStop (cycles : Nat) (s : State) : Result := { s with stopped := true }.complete cycles

/-- DI and EI (R423, R424): IME is written at once. -/
def writeIme (v : Bool) (cycles : Nat) (s : State) : Result := { s with ime := v }.complete cycles

/-- The cycles of a prefixed rotate, shift, RES or SET (R497): 8 on a register, 16 on (HL). -/
def modifyCycles : Operand8 → Nat
  | .reg _ => 8
  | .mem _ => 16

/-- The cycles of BIT (R497): 8 on a register, 12 on (HL). -/
def bitCycles : Operand8 → Nat
  | .reg _ => 8
  | .mem _ => 12

/-- The prefixed instruction of a second byte, by its fields (R129): x selects the group, y the operation or the bit, z the
operand. -/
def prefixedEntry (b : Byte) (s : State) : Result :=
  let y := b.extractLsb' 3 3
  let o := Operand8.ofCode (b.extractLsb' 0 3)
  match (b.extractLsb' 6 2).toNat with
  | 0 => shiftOperand (ShiftOp.ofCode y) o (modifyCycles o) s
  | 1 => bitTest y.toNat o (bitCycles o) s
  | 2 => bitClear y.toNat o (modifyCycles o) s
  | _ => bitSet y.toNat o (modifyCycles o) s

/-- NOP (0x00; R420). -/
def execNop (s : State) : Result := s.complete 4

/-- HALT (0x76; R421). -/
def execHalt (s : State) : Result := enterHalt 4 s

/-- STOP (0x10; R422). -/
def execStop (s : State) : Result := enterStop 4 s

/-- DI (0xF3; R423). -/
def execDi (s : State) : Result := writeIme false 4 s

/-- EI (0xFB; R424). -/
def execEi (s : State) : Result := writeIme true 4 s

/-- PREFIX CB (0xCB; R425). -/
def execPrefix_cb (b : Byte) (s : State) : Result := prefixedEntry b s

/-- ILLEGAL (the eleven illegal bytes; R426). -/
def execIllegal (op : Byte) (s : State) : Result := .next (s.raiseIllegalOpcode op)

end Sys2Proof.Machine
end

