-- ==== Sys2Proof/Machine/Dispatch.lean ====
section
/-! DEFINITION. The dispatch: one arm per constructor of `Instr`, each one call of its meaning. The state is the one after
the instruction's bytes were fetched, so PC is past them (44_control.md, R141). -/

namespace Sys2Proof.Machine

def exec (i : Instr) (s : State) : Host.Outcome State Fault Refusal :=
  match i with
  | .ld_b_b => Sys2Proof.Machine.execLd_b_b s
  | .ld_b_c => Sys2Proof.Machine.execLd_b_c s
  | .ld_b_d => Sys2Proof.Machine.execLd_b_d s
  | .ld_b_e => Sys2Proof.Machine.execLd_b_e s
  | .ld_b_h => Sys2Proof.Machine.execLd_b_h s
  | .ld_b_l => Sys2Proof.Machine.execLd_b_l s
  | .ld_b_a => Sys2Proof.Machine.execLd_b_a s
  | .ld_c_b => Sys2Proof.Machine.execLd_c_b s
  | .ld_c_c => Sys2Proof.Machine.execLd_c_c s
  | .ld_c_d => Sys2Proof.Machine.execLd_c_d s
  | .ld_c_e => Sys2Proof.Machine.execLd_c_e s
  | .ld_c_h => Sys2Proof.Machine.execLd_c_h s
  | .ld_c_l => Sys2Proof.Machine.execLd_c_l s
  | .ld_c_a => Sys2Proof.Machine.execLd_c_a s
  | .ld_d_b => Sys2Proof.Machine.execLd_d_b s
  | .ld_d_c => Sys2Proof.Machine.execLd_d_c s
  | .ld_d_d => Sys2Proof.Machine.execLd_d_d s
  | .ld_d_e => Sys2Proof.Machine.execLd_d_e s
  | .ld_d_h => Sys2Proof.Machine.execLd_d_h s
  | .ld_d_l => Sys2Proof.Machine.execLd_d_l s
  | .ld_d_a => Sys2Proof.Machine.execLd_d_a s
  | .ld_e_b => Sys2Proof.Machine.execLd_e_b s
  | .ld_e_c => Sys2Proof.Machine.execLd_e_c s
  | .ld_e_d => Sys2Proof.Machine.execLd_e_d s
  | .ld_e_e => Sys2Proof.Machine.execLd_e_e s
  | .ld_e_h => Sys2Proof.Machine.execLd_e_h s
  | .ld_e_l => Sys2Proof.Machine.execLd_e_l s
  | .ld_e_a => Sys2Proof.Machine.execLd_e_a s
  | .ld_h_b => Sys2Proof.Machine.execLd_h_b s
  | .ld_h_c => Sys2Proof.Machine.execLd_h_c s
  | .ld_h_d => Sys2Proof.Machine.execLd_h_d s
  | .ld_h_e => Sys2Proof.Machine.execLd_h_e s
  | .ld_h_h => Sys2Proof.Machine.execLd_h_h s
  | .ld_h_l => Sys2Proof.Machine.execLd_h_l s
  | .ld_h_a => Sys2Proof.Machine.execLd_h_a s
  | .ld_l_b => Sys2Proof.Machine.execLd_l_b s
  | .ld_l_c => Sys2Proof.Machine.execLd_l_c s
  | .ld_l_d => Sys2Proof.Machine.execLd_l_d s
  | .ld_l_e => Sys2Proof.Machine.execLd_l_e s
  | .ld_l_h => Sys2Proof.Machine.execLd_l_h s
  | .ld_l_l => Sys2Proof.Machine.execLd_l_l s
  | .ld_l_a => Sys2Proof.Machine.execLd_l_a s
  | .ld_a_b => Sys2Proof.Machine.execLd_a_b s
  | .ld_a_c => Sys2Proof.Machine.execLd_a_c s
  | .ld_a_d => Sys2Proof.Machine.execLd_a_d s
  | .ld_a_e => Sys2Proof.Machine.execLd_a_e s
  | .ld_a_h => Sys2Proof.Machine.execLd_a_h s
  | .ld_a_l => Sys2Proof.Machine.execLd_a_l s
  | .ld_a_a => Sys2Proof.Machine.execLd_a_a s
  | .ld_b_atHL => Sys2Proof.Machine.execLd_b_atHL s
  | .ld_c_atHL => Sys2Proof.Machine.execLd_c_atHL s
  | .ld_d_atHL => Sys2Proof.Machine.execLd_d_atHL s
  | .ld_e_atHL => Sys2Proof.Machine.execLd_e_atHL s
  | .ld_h_atHL => Sys2Proof.Machine.execLd_h_atHL s
  | .ld_l_atHL => Sys2Proof.Machine.execLd_l_atHL s
  | .ld_a_atHL => Sys2Proof.Machine.execLd_a_atHL s
  | .ld_atHL_b => Sys2Proof.Machine.execLd_atHL_b s
  | .ld_atHL_c => Sys2Proof.Machine.execLd_atHL_c s
  | .ld_atHL_d => Sys2Proof.Machine.execLd_atHL_d s
  | .ld_atHL_e => Sys2Proof.Machine.execLd_atHL_e s
  | .ld_atHL_h => Sys2Proof.Machine.execLd_atHL_h s
  | .ld_atHL_l => Sys2Proof.Machine.execLd_atHL_l s
  | .ld_atHL_a => Sys2Proof.Machine.execLd_atHL_a s
  | .ld_b_n8 n => Sys2Proof.Machine.execLd_b_n8 n s
  | .ld_c_n8 n => Sys2Proof.Machine.execLd_c_n8 n s
  | .ld_d_n8 n => Sys2Proof.Machine.execLd_d_n8 n s
  | .ld_e_n8 n => Sys2Proof.Machine.execLd_e_n8 n s
  | .ld_h_n8 n => Sys2Proof.Machine.execLd_h_n8 n s
  | .ld_l_n8 n => Sys2Proof.Machine.execLd_l_n8 n s
  | .ld_a_n8 n => Sys2Proof.Machine.execLd_a_n8 n s
  | .ld_atHL_n8 n => Sys2Proof.Machine.execLd_atHL_n8 n s
  | .ld_a_atBC => Sys2Proof.Machine.execLd_a_atBC s
  | .ld_a_atDE => Sys2Proof.Machine.execLd_a_atDE s
  | .ld_atBC_a => Sys2Proof.Machine.execLd_atBC_a s
  | .ld_atDE_a => Sys2Proof.Machine.execLd_atDE_a s
  | .ld_a_atHLInc => Sys2Proof.Machine.execLd_a_atHLInc s
  | .ld_a_atHLDec => Sys2Proof.Machine.execLd_a_atHLDec s
  | .ld_atHLInc_a => Sys2Proof.Machine.execLd_atHLInc_a s
  | .ld_atHLDec_a => Sys2Proof.Machine.execLd_atHLDec_a s
  | .ld_a_atA16 addr => Sys2Proof.Machine.execLd_a_atA16 addr s
  | .ld_atA16_a addr => Sys2Proof.Machine.execLd_atA16_a addr s
  | .ldh_a_atA8 o => Sys2Proof.Machine.execLdh_a_atA8 o s
  | .ldh_atA8_a o => Sys2Proof.Machine.execLdh_atA8_a o s
  | .ld_a_atC => Sys2Proof.Machine.execLd_a_atC s
  | .ld_atC_a => Sys2Proof.Machine.execLd_atC_a s
  | .ld_bc_n16 n => Sys2Proof.Machine.execLd_bc_n16 n s
  | .ld_de_n16 n => Sys2Proof.Machine.execLd_de_n16 n s
  | .ld_hl_n16 n => Sys2Proof.Machine.execLd_hl_n16 n s
  | .ld_sp_n16 n => Sys2Proof.Machine.execLd_sp_n16 n s
  | .ld_atA16_sp addr => Sys2Proof.Machine.execLd_atA16_sp addr s
  | .ld_sp_hl => Sys2Proof.Machine.execLd_sp_hl s
  | .ld_hl_spPlusE8 e => Sys2Proof.Machine.execLd_hl_spPlusE8 e s
  | .push_bc => Sys2Proof.Machine.execPush_bc s
  | .push_de => Sys2Proof.Machine.execPush_de s
  | .push_hl => Sys2Proof.Machine.execPush_hl s
  | .push_af => Sys2Proof.Machine.execPush_af s
  | .pop_bc => Sys2Proof.Machine.execPop_bc s
  | .pop_de => Sys2Proof.Machine.execPop_de s
  | .pop_hl => Sys2Proof.Machine.execPop_hl s
  | .pop_af => Sys2Proof.Machine.execPop_af s
  | .add_a_b => Sys2Proof.Machine.execAdd_a_b s
  | .add_a_c => Sys2Proof.Machine.execAdd_a_c s
  | .add_a_d => Sys2Proof.Machine.execAdd_a_d s
  | .add_a_e => Sys2Proof.Machine.execAdd_a_e s
  | .add_a_h => Sys2Proof.Machine.execAdd_a_h s
  | .add_a_l => Sys2Proof.Machine.execAdd_a_l s
  | .add_a_atHL => Sys2Proof.Machine.execAdd_a_atHL s
  | .add_a_a => Sys2Proof.Machine.execAdd_a_a s
  | .add_a_n8 n => Sys2Proof.Machine.execAdd_a_n8 n s
  | .adc_a_b => Sys2Proof.Machine.execAdc_a_b s
  | .adc_a_c => Sys2Proof.Machine.execAdc_a_c s
  | .adc_a_d => Sys2Proof.Machine.execAdc_a_d s
  | .adc_a_e => Sys2Proof.Machine.execAdc_a_e s
  | .adc_a_h => Sys2Proof.Machine.execAdc_a_h s
  | .adc_a_l => Sys2Proof.Machine.execAdc_a_l s
  | .adc_a_atHL => Sys2Proof.Machine.execAdc_a_atHL s
  | .adc_a_a => Sys2Proof.Machine.execAdc_a_a s
  | .adc_a_n8 n => Sys2Proof.Machine.execAdc_a_n8 n s
  | .sub_a_b => Sys2Proof.Machine.execSub_a_b s
  | .sub_a_c => Sys2Proof.Machine.execSub_a_c s
  | .sub_a_d => Sys2Proof.Machine.execSub_a_d s
  | .sub_a_e => Sys2Proof.Machine.execSub_a_e s
  | .sub_a_h => Sys2Proof.Machine.execSub_a_h s
  | .sub_a_l => Sys2Proof.Machine.execSub_a_l s
  | .sub_a_atHL => Sys2Proof.Machine.execSub_a_atHL s
  | .sub_a_a => Sys2Proof.Machine.execSub_a_a s
  | .sub_a_n8 n => Sys2Proof.Machine.execSub_a_n8 n s
  | .sbc_a_b => Sys2Proof.Machine.execSbc_a_b s
  | .sbc_a_c => Sys2Proof.Machine.execSbc_a_c s
  | .sbc_a_d => Sys2Proof.Machine.execSbc_a_d s
  | .sbc_a_e => Sys2Proof.Machine.execSbc_a_e s
  | .sbc_a_h => Sys2Proof.Machine.execSbc_a_h s
  | .sbc_a_l => Sys2Proof.Machine.execSbc_a_l s
  | .sbc_a_atHL => Sys2Proof.Machine.execSbc_a_atHL s
  | .sbc_a_a => Sys2Proof.Machine.execSbc_a_a s
  | .sbc_a_n8 n => Sys2Proof.Machine.execSbc_a_n8 n s
  | .and_a_b => Sys2Proof.Machine.execAnd_a_b s
  | .and_a_c => Sys2Proof.Machine.execAnd_a_c s
  | .and_a_d => Sys2Proof.Machine.execAnd_a_d s
  | .and_a_e => Sys2Proof.Machine.execAnd_a_e s
  | .and_a_h => Sys2Proof.Machine.execAnd_a_h s
  | .and_a_l => Sys2Proof.Machine.execAnd_a_l s
  | .and_a_atHL => Sys2Proof.Machine.execAnd_a_atHL s
  | .and_a_a => Sys2Proof.Machine.execAnd_a_a s
  | .and_a_n8 n => Sys2Proof.Machine.execAnd_a_n8 n s
  | .xor_a_b => Sys2Proof.Machine.execXor_a_b s
  | .xor_a_c => Sys2Proof.Machine.execXor_a_c s
  | .xor_a_d => Sys2Proof.Machine.execXor_a_d s
  | .xor_a_e => Sys2Proof.Machine.execXor_a_e s
  | .xor_a_h => Sys2Proof.Machine.execXor_a_h s
  | .xor_a_l => Sys2Proof.Machine.execXor_a_l s
  | .xor_a_atHL => Sys2Proof.Machine.execXor_a_atHL s
  | .xor_a_a => Sys2Proof.Machine.execXor_a_a s
  | .xor_a_n8 n => Sys2Proof.Machine.execXor_a_n8 n s
  | .or_a_b => Sys2Proof.Machine.execOr_a_b s
  | .or_a_c => Sys2Proof.Machine.execOr_a_c s
  | .or_a_d => Sys2Proof.Machine.execOr_a_d s
  | .or_a_e => Sys2Proof.Machine.execOr_a_e s
  | .or_a_h => Sys2Proof.Machine.execOr_a_h s
  | .or_a_l => Sys2Proof.Machine.execOr_a_l s
  | .or_a_atHL => Sys2Proof.Machine.execOr_a_atHL s
  | .or_a_a => Sys2Proof.Machine.execOr_a_a s
  | .or_a_n8 n => Sys2Proof.Machine.execOr_a_n8 n s
  | .cp_a_b => Sys2Proof.Machine.execCp_a_b s
  | .cp_a_c => Sys2Proof.Machine.execCp_a_c s
  | .cp_a_d => Sys2Proof.Machine.execCp_a_d s
  | .cp_a_e => Sys2Proof.Machine.execCp_a_e s
  | .cp_a_h => Sys2Proof.Machine.execCp_a_h s
  | .cp_a_l => Sys2Proof.Machine.execCp_a_l s
  | .cp_a_atHL => Sys2Proof.Machine.execCp_a_atHL s
  | .cp_a_a => Sys2Proof.Machine.execCp_a_a s
  | .cp_a_n8 n => Sys2Proof.Machine.execCp_a_n8 n s
  | .inc_b => Sys2Proof.Machine.execInc_b s
  | .inc_c => Sys2Proof.Machine.execInc_c s
  | .inc_d => Sys2Proof.Machine.execInc_d s
  | .inc_e => Sys2Proof.Machine.execInc_e s
  | .inc_h => Sys2Proof.Machine.execInc_h s
  | .inc_l => Sys2Proof.Machine.execInc_l s
  | .inc_a => Sys2Proof.Machine.execInc_a s
  | .inc_atHL => Sys2Proof.Machine.execInc_atHL s
  | .dec_b => Sys2Proof.Machine.execDec_b s
  | .dec_c => Sys2Proof.Machine.execDec_c s
  | .dec_d => Sys2Proof.Machine.execDec_d s
  | .dec_e => Sys2Proof.Machine.execDec_e s
  | .dec_h => Sys2Proof.Machine.execDec_h s
  | .dec_l => Sys2Proof.Machine.execDec_l s
  | .dec_a => Sys2Proof.Machine.execDec_a s
  | .dec_atHL => Sys2Proof.Machine.execDec_atHL s
  | .daa => Sys2Proof.Machine.execDaa s
  | .cpl => Sys2Proof.Machine.execCpl s
  | .scf => Sys2Proof.Machine.execScf s
  | .ccf => Sys2Proof.Machine.execCcf s
  | .inc_bc => Sys2Proof.Machine.execInc_bc s
  | .inc_de => Sys2Proof.Machine.execInc_de s
  | .inc_hl => Sys2Proof.Machine.execInc_hl s
  | .inc_sp => Sys2Proof.Machine.execInc_sp s
  | .dec_bc => Sys2Proof.Machine.execDec_bc s
  | .dec_de => Sys2Proof.Machine.execDec_de s
  | .dec_hl => Sys2Proof.Machine.execDec_hl s
  | .dec_sp => Sys2Proof.Machine.execDec_sp s
  | .add_hl_bc => Sys2Proof.Machine.execAdd_hl_bc s
  | .add_hl_de => Sys2Proof.Machine.execAdd_hl_de s
  | .add_hl_hl => Sys2Proof.Machine.execAdd_hl_hl s
  | .add_hl_sp => Sys2Proof.Machine.execAdd_hl_sp s
  | .add_sp_e8 e => Sys2Proof.Machine.execAdd_sp_e8 e s
  | .rlca => Sys2Proof.Machine.execRlca s
  | .rrca => Sys2Proof.Machine.execRrca s
  | .rla => Sys2Proof.Machine.execRla s
  | .rra => Sys2Proof.Machine.execRra s
  | .rlc_b => Sys2Proof.Machine.execRlc_b s
  | .rlc_c => Sys2Proof.Machine.execRlc_c s
  | .rlc_d => Sys2Proof.Machine.execRlc_d s
  | .rlc_e => Sys2Proof.Machine.execRlc_e s
  | .rlc_h => Sys2Proof.Machine.execRlc_h s
  | .rlc_l => Sys2Proof.Machine.execRlc_l s
  | .rlc_atHL => Sys2Proof.Machine.execRlc_atHL s
  | .rlc_a => Sys2Proof.Machine.execRlc_a s
  | .rrc_b => Sys2Proof.Machine.execRrc_b s
  | .rrc_c => Sys2Proof.Machine.execRrc_c s
  | .rrc_d => Sys2Proof.Machine.execRrc_d s
  | .rrc_e => Sys2Proof.Machine.execRrc_e s
  | .rrc_h => Sys2Proof.Machine.execRrc_h s
  | .rrc_l => Sys2Proof.Machine.execRrc_l s
  | .rrc_atHL => Sys2Proof.Machine.execRrc_atHL s
  | .rrc_a => Sys2Proof.Machine.execRrc_a s
  | .rl_b => Sys2Proof.Machine.execRl_b s
  | .rl_c => Sys2Proof.Machine.execRl_c s
  | .rl_d => Sys2Proof.Machine.execRl_d s
  | .rl_e => Sys2Proof.Machine.execRl_e s
  | .rl_h => Sys2Proof.Machine.execRl_h s
  | .rl_l => Sys2Proof.Machine.execRl_l s
  | .rl_atHL => Sys2Proof.Machine.execRl_atHL s
  | .rl_a => Sys2Proof.Machine.execRl_a s
  | .rr_b => Sys2Proof.Machine.execRr_b s
  | .rr_c => Sys2Proof.Machine.execRr_c s
  | .rr_d => Sys2Proof.Machine.execRr_d s
  | .rr_e => Sys2Proof.Machine.execRr_e s
  | .rr_h => Sys2Proof.Machine.execRr_h s
  | .rr_l => Sys2Proof.Machine.execRr_l s
  | .rr_atHL => Sys2Proof.Machine.execRr_atHL s
  | .rr_a => Sys2Proof.Machine.execRr_a s
  | .sla_b => Sys2Proof.Machine.execSla_b s
  | .sla_c => Sys2Proof.Machine.execSla_c s
  | .sla_d => Sys2Proof.Machine.execSla_d s
  | .sla_e => Sys2Proof.Machine.execSla_e s
  | .sla_h => Sys2Proof.Machine.execSla_h s
  | .sla_l => Sys2Proof.Machine.execSla_l s
  | .sla_atHL => Sys2Proof.Machine.execSla_atHL s
  | .sla_a => Sys2Proof.Machine.execSla_a s
  | .sra_b => Sys2Proof.Machine.execSra_b s
  | .sra_c => Sys2Proof.Machine.execSra_c s
  | .sra_d => Sys2Proof.Machine.execSra_d s
  | .sra_e => Sys2Proof.Machine.execSra_e s
  | .sra_h => Sys2Proof.Machine.execSra_h s
  | .sra_l => Sys2Proof.Machine.execSra_l s
  | .sra_atHL => Sys2Proof.Machine.execSra_atHL s
  | .sra_a => Sys2Proof.Machine.execSra_a s
  | .swap_b => Sys2Proof.Machine.execSwap_b s
  | .swap_c => Sys2Proof.Machine.execSwap_c s
  | .swap_d => Sys2Proof.Machine.execSwap_d s
  | .swap_e => Sys2Proof.Machine.execSwap_e s
  | .swap_h => Sys2Proof.Machine.execSwap_h s
  | .swap_l => Sys2Proof.Machine.execSwap_l s
  | .swap_atHL => Sys2Proof.Machine.execSwap_atHL s
  | .swap_a => Sys2Proof.Machine.execSwap_a s
  | .srl_b => Sys2Proof.Machine.execSrl_b s
  | .srl_c => Sys2Proof.Machine.execSrl_c s
  | .srl_d => Sys2Proof.Machine.execSrl_d s
  | .srl_e => Sys2Proof.Machine.execSrl_e s
  | .srl_h => Sys2Proof.Machine.execSrl_h s
  | .srl_l => Sys2Proof.Machine.execSrl_l s
  | .srl_atHL => Sys2Proof.Machine.execSrl_atHL s
  | .srl_a => Sys2Proof.Machine.execSrl_a s
  | .bit_0_b => Sys2Proof.Machine.execBit_0_b s
  | .bit_0_c => Sys2Proof.Machine.execBit_0_c s
  | .bit_0_d => Sys2Proof.Machine.execBit_0_d s
  | .bit_0_e => Sys2Proof.Machine.execBit_0_e s
  | .bit_0_h => Sys2Proof.Machine.execBit_0_h s
  | .bit_0_l => Sys2Proof.Machine.execBit_0_l s
  | .bit_0_atHL => Sys2Proof.Machine.execBit_0_atHL s
  | .bit_0_a => Sys2Proof.Machine.execBit_0_a s
  | .bit_1_b => Sys2Proof.Machine.execBit_1_b s
  | .bit_1_c => Sys2Proof.Machine.execBit_1_c s
  | .bit_1_d => Sys2Proof.Machine.execBit_1_d s
  | .bit_1_e => Sys2Proof.Machine.execBit_1_e s
  | .bit_1_h => Sys2Proof.Machine.execBit_1_h s
  | .bit_1_l => Sys2Proof.Machine.execBit_1_l s
  | .bit_1_atHL => Sys2Proof.Machine.execBit_1_atHL s
  | .bit_1_a => Sys2Proof.Machine.execBit_1_a s
  | .bit_2_b => Sys2Proof.Machine.execBit_2_b s
  | .bit_2_c => Sys2Proof.Machine.execBit_2_c s
  | .bit_2_d => Sys2Proof.Machine.execBit_2_d s
  | .bit_2_e => Sys2Proof.Machine.execBit_2_e s
  | .bit_2_h => Sys2Proof.Machine.execBit_2_h s
  | .bit_2_l => Sys2Proof.Machine.execBit_2_l s
  | .bit_2_atHL => Sys2Proof.Machine.execBit_2_atHL s
  | .bit_2_a => Sys2Proof.Machine.execBit_2_a s
  | .bit_3_b => Sys2Proof.Machine.execBit_3_b s
  | .bit_3_c => Sys2Proof.Machine.execBit_3_c s
  | .bit_3_d => Sys2Proof.Machine.execBit_3_d s
  | .bit_3_e => Sys2Proof.Machine.execBit_3_e s
  | .bit_3_h => Sys2Proof.Machine.execBit_3_h s
  | .bit_3_l => Sys2Proof.Machine.execBit_3_l s
  | .bit_3_atHL => Sys2Proof.Machine.execBit_3_atHL s
  | .bit_3_a => Sys2Proof.Machine.execBit_3_a s
  | .bit_4_b => Sys2Proof.Machine.execBit_4_b s
  | .bit_4_c => Sys2Proof.Machine.execBit_4_c s
  | .bit_4_d => Sys2Proof.Machine.execBit_4_d s
  | .bit_4_e => Sys2Proof.Machine.execBit_4_e s
  | .bit_4_h => Sys2Proof.Machine.execBit_4_h s
  | .bit_4_l => Sys2Proof.Machine.execBit_4_l s
  | .bit_4_atHL => Sys2Proof.Machine.execBit_4_atHL s
  | .bit_4_a => Sys2Proof.Machine.execBit_4_a s
  | .bit_5_b => Sys2Proof.Machine.execBit_5_b s
  | .bit_5_c => Sys2Proof.Machine.execBit_5_c s
  | .bit_5_d => Sys2Proof.Machine.execBit_5_d s
  | .bit_5_e => Sys2Proof.Machine.execBit_5_e s
  | .bit_5_h => Sys2Proof.Machine.execBit_5_h s
  | .bit_5_l => Sys2Proof.Machine.execBit_5_l s
  | .bit_5_atHL => Sys2Proof.Machine.execBit_5_atHL s
  | .bit_5_a => Sys2Proof.Machine.execBit_5_a s
  | .bit_6_b => Sys2Proof.Machine.execBit_6_b s
  | .bit_6_c => Sys2Proof.Machine.execBit_6_c s
  | .bit_6_d => Sys2Proof.Machine.execBit_6_d s
  | .bit_6_e => Sys2Proof.Machine.execBit_6_e s
  | .bit_6_h => Sys2Proof.Machine.execBit_6_h s
  | .bit_6_l => Sys2Proof.Machine.execBit_6_l s
  | .bit_6_atHL => Sys2Proof.Machine.execBit_6_atHL s
  | .bit_6_a => Sys2Proof.Machine.execBit_6_a s
  | .bit_7_b => Sys2Proof.Machine.execBit_7_b s
  | .bit_7_c => Sys2Proof.Machine.execBit_7_c s
  | .bit_7_d => Sys2Proof.Machine.execBit_7_d s
  | .bit_7_e => Sys2Proof.Machine.execBit_7_e s
  | .bit_7_h => Sys2Proof.Machine.execBit_7_h s
  | .bit_7_l => Sys2Proof.Machine.execBit_7_l s
  | .bit_7_atHL => Sys2Proof.Machine.execBit_7_atHL s
  | .bit_7_a => Sys2Proof.Machine.execBit_7_a s
  | .res_0_b => Sys2Proof.Machine.execRes_0_b s
  | .res_0_c => Sys2Proof.Machine.execRes_0_c s
  | .res_0_d => Sys2Proof.Machine.execRes_0_d s
  | .res_0_e => Sys2Proof.Machine.execRes_0_e s
  | .res_0_h => Sys2Proof.Machine.execRes_0_h s
  | .res_0_l => Sys2Proof.Machine.execRes_0_l s
  | .res_0_atHL => Sys2Proof.Machine.execRes_0_atHL s
  | .res_0_a => Sys2Proof.Machine.execRes_0_a s
  | .res_1_b => Sys2Proof.Machine.execRes_1_b s
  | .res_1_c => Sys2Proof.Machine.execRes_1_c s
  | .res_1_d => Sys2Proof.Machine.execRes_1_d s
  | .res_1_e => Sys2Proof.Machine.execRes_1_e s
  | .res_1_h => Sys2Proof.Machine.execRes_1_h s
  | .res_1_l => Sys2Proof.Machine.execRes_1_l s
  | .res_1_atHL => Sys2Proof.Machine.execRes_1_atHL s
  | .res_1_a => Sys2Proof.Machine.execRes_1_a s
  | .res_2_b => Sys2Proof.Machine.execRes_2_b s
  | .res_2_c => Sys2Proof.Machine.execRes_2_c s
  | .res_2_d => Sys2Proof.Machine.execRes_2_d s
  | .res_2_e => Sys2Proof.Machine.execRes_2_e s
  | .res_2_h => Sys2Proof.Machine.execRes_2_h s
  | .res_2_l => Sys2Proof.Machine.execRes_2_l s
  | .res_2_atHL => Sys2Proof.Machine.execRes_2_atHL s
  | .res_2_a => Sys2Proof.Machine.execRes_2_a s
  | .res_3_b => Sys2Proof.Machine.execRes_3_b s
  | .res_3_c => Sys2Proof.Machine.execRes_3_c s
  | .res_3_d => Sys2Proof.Machine.execRes_3_d s
  | .res_3_e => Sys2Proof.Machine.execRes_3_e s
  | .res_3_h => Sys2Proof.Machine.execRes_3_h s
  | .res_3_l => Sys2Proof.Machine.execRes_3_l s
  | .res_3_atHL => Sys2Proof.Machine.execRes_3_atHL s
  | .res_3_a => Sys2Proof.Machine.execRes_3_a s
  | .res_4_b => Sys2Proof.Machine.execRes_4_b s
  | .res_4_c => Sys2Proof.Machine.execRes_4_c s
  | .res_4_d => Sys2Proof.Machine.execRes_4_d s
  | .res_4_e => Sys2Proof.Machine.execRes_4_e s
  | .res_4_h => Sys2Proof.Machine.execRes_4_h s
  | .res_4_l => Sys2Proof.Machine.execRes_4_l s
  | .res_4_atHL => Sys2Proof.Machine.execRes_4_atHL s
  | .res_4_a => Sys2Proof.Machine.execRes_4_a s
  | .res_5_b => Sys2Proof.Machine.execRes_5_b s
  | .res_5_c => Sys2Proof.Machine.execRes_5_c s
  | .res_5_d => Sys2Proof.Machine.execRes_5_d s
  | .res_5_e => Sys2Proof.Machine.execRes_5_e s
  | .res_5_h => Sys2Proof.Machine.execRes_5_h s
  | .res_5_l => Sys2Proof.Machine.execRes_5_l s
  | .res_5_atHL => Sys2Proof.Machine.execRes_5_atHL s
  | .res_5_a => Sys2Proof.Machine.execRes_5_a s
  | .res_6_b => Sys2Proof.Machine.execRes_6_b s
  | .res_6_c => Sys2Proof.Machine.execRes_6_c s
  | .res_6_d => Sys2Proof.Machine.execRes_6_d s
  | .res_6_e => Sys2Proof.Machine.execRes_6_e s
  | .res_6_h => Sys2Proof.Machine.execRes_6_h s
  | .res_6_l => Sys2Proof.Machine.execRes_6_l s
  | .res_6_atHL => Sys2Proof.Machine.execRes_6_atHL s
  | .res_6_a => Sys2Proof.Machine.execRes_6_a s
  | .res_7_b => Sys2Proof.Machine.execRes_7_b s
  | .res_7_c => Sys2Proof.Machine.execRes_7_c s
  | .res_7_d => Sys2Proof.Machine.execRes_7_d s
  | .res_7_e => Sys2Proof.Machine.execRes_7_e s
  | .res_7_h => Sys2Proof.Machine.execRes_7_h s
  | .res_7_l => Sys2Proof.Machine.execRes_7_l s
  | .res_7_atHL => Sys2Proof.Machine.execRes_7_atHL s
  | .res_7_a => Sys2Proof.Machine.execRes_7_a s
  | .set_0_b => Sys2Proof.Machine.execSet_0_b s
  | .set_0_c => Sys2Proof.Machine.execSet_0_c s
  | .set_0_d => Sys2Proof.Machine.execSet_0_d s
  | .set_0_e => Sys2Proof.Machine.execSet_0_e s
  | .set_0_h => Sys2Proof.Machine.execSet_0_h s
  | .set_0_l => Sys2Proof.Machine.execSet_0_l s
  | .set_0_atHL => Sys2Proof.Machine.execSet_0_atHL s
  | .set_0_a => Sys2Proof.Machine.execSet_0_a s
  | .set_1_b => Sys2Proof.Machine.execSet_1_b s
  | .set_1_c => Sys2Proof.Machine.execSet_1_c s
  | .set_1_d => Sys2Proof.Machine.execSet_1_d s
  | .set_1_e => Sys2Proof.Machine.execSet_1_e s
  | .set_1_h => Sys2Proof.Machine.execSet_1_h s
  | .set_1_l => Sys2Proof.Machine.execSet_1_l s
  | .set_1_atHL => Sys2Proof.Machine.execSet_1_atHL s
  | .set_1_a => Sys2Proof.Machine.execSet_1_a s
  | .set_2_b => Sys2Proof.Machine.execSet_2_b s
  | .set_2_c => Sys2Proof.Machine.execSet_2_c s
  | .set_2_d => Sys2Proof.Machine.execSet_2_d s
  | .set_2_e => Sys2Proof.Machine.execSet_2_e s
  | .set_2_h => Sys2Proof.Machine.execSet_2_h s
  | .set_2_l => Sys2Proof.Machine.execSet_2_l s
  | .set_2_atHL => Sys2Proof.Machine.execSet_2_atHL s
  | .set_2_a => Sys2Proof.Machine.execSet_2_a s
  | .set_3_b => Sys2Proof.Machine.execSet_3_b s
  | .set_3_c => Sys2Proof.Machine.execSet_3_c s
  | .set_3_d => Sys2Proof.Machine.execSet_3_d s
  | .set_3_e => Sys2Proof.Machine.execSet_3_e s
  | .set_3_h => Sys2Proof.Machine.execSet_3_h s
  | .set_3_l => Sys2Proof.Machine.execSet_3_l s
  | .set_3_atHL => Sys2Proof.Machine.execSet_3_atHL s
  | .set_3_a => Sys2Proof.Machine.execSet_3_a s
  | .set_4_b => Sys2Proof.Machine.execSet_4_b s
  | .set_4_c => Sys2Proof.Machine.execSet_4_c s
  | .set_4_d => Sys2Proof.Machine.execSet_4_d s
  | .set_4_e => Sys2Proof.Machine.execSet_4_e s
  | .set_4_h => Sys2Proof.Machine.execSet_4_h s
  | .set_4_l => Sys2Proof.Machine.execSet_4_l s
  | .set_4_atHL => Sys2Proof.Machine.execSet_4_atHL s
  | .set_4_a => Sys2Proof.Machine.execSet_4_a s
  | .set_5_b => Sys2Proof.Machine.execSet_5_b s
  | .set_5_c => Sys2Proof.Machine.execSet_5_c s
  | .set_5_d => Sys2Proof.Machine.execSet_5_d s
  | .set_5_e => Sys2Proof.Machine.execSet_5_e s
  | .set_5_h => Sys2Proof.Machine.execSet_5_h s
  | .set_5_l => Sys2Proof.Machine.execSet_5_l s
  | .set_5_atHL => Sys2Proof.Machine.execSet_5_atHL s
  | .set_5_a => Sys2Proof.Machine.execSet_5_a s
  | .set_6_b => Sys2Proof.Machine.execSet_6_b s
  | .set_6_c => Sys2Proof.Machine.execSet_6_c s
  | .set_6_d => Sys2Proof.Machine.execSet_6_d s
  | .set_6_e => Sys2Proof.Machine.execSet_6_e s
  | .set_6_h => Sys2Proof.Machine.execSet_6_h s
  | .set_6_l => Sys2Proof.Machine.execSet_6_l s
  | .set_6_atHL => Sys2Proof.Machine.execSet_6_atHL s
  | .set_6_a => Sys2Proof.Machine.execSet_6_a s
  | .set_7_b => Sys2Proof.Machine.execSet_7_b s
  | .set_7_c => Sys2Proof.Machine.execSet_7_c s
  | .set_7_d => Sys2Proof.Machine.execSet_7_d s
  | .set_7_e => Sys2Proof.Machine.execSet_7_e s
  | .set_7_h => Sys2Proof.Machine.execSet_7_h s
  | .set_7_l => Sys2Proof.Machine.execSet_7_l s
  | .set_7_atHL => Sys2Proof.Machine.execSet_7_atHL s
  | .set_7_a => Sys2Proof.Machine.execSet_7_a s
  | .jp_n16 n => Sys2Proof.Machine.execJp_n16 n s
  | .jp_nz_n16 n => Sys2Proof.Machine.execJp_nz_n16 n s
  | .jp_z_n16 n => Sys2Proof.Machine.execJp_z_n16 n s
  | .jp_nc_n16 n => Sys2Proof.Machine.execJp_nc_n16 n s
  | .jp_c_n16 n => Sys2Proof.Machine.execJp_c_n16 n s
  | .jp_hl => Sys2Proof.Machine.execJp_hl s
  | .jr_e8 e => Sys2Proof.Machine.execJr_e8 e s
  | .jr_nz_e8 e => Sys2Proof.Machine.execJr_nz_e8 e s
  | .jr_z_e8 e => Sys2Proof.Machine.execJr_z_e8 e s
  | .jr_nc_e8 e => Sys2Proof.Machine.execJr_nc_e8 e s
  | .jr_c_e8 e => Sys2Proof.Machine.execJr_c_e8 e s
  | .call_n16 n => Sys2Proof.Machine.execCall_n16 n s
  | .call_nz_n16 n => Sys2Proof.Machine.execCall_nz_n16 n s
  | .call_z_n16 n => Sys2Proof.Machine.execCall_z_n16 n s
  | .call_nc_n16 n => Sys2Proof.Machine.execCall_nc_n16 n s
  | .call_c_n16 n => Sys2Proof.Machine.execCall_c_n16 n s
  | .rst_00 => Sys2Proof.Machine.execRst_00 s
  | .rst_08 => Sys2Proof.Machine.execRst_08 s
  | .rst_10 => Sys2Proof.Machine.execRst_10 s
  | .rst_18 => Sys2Proof.Machine.execRst_18 s
  | .rst_20 => Sys2Proof.Machine.execRst_20 s
  | .rst_28 => Sys2Proof.Machine.execRst_28 s
  | .rst_30 => Sys2Proof.Machine.execRst_30 s
  | .rst_38 => Sys2Proof.Machine.execRst_38 s
  | .ret => Sys2Proof.Machine.execRet s
  | .ret_nz => Sys2Proof.Machine.execRet_nz s
  | .ret_z => Sys2Proof.Machine.execRet_z s
  | .ret_nc => Sys2Proof.Machine.execRet_nc s
  | .ret_c => Sys2Proof.Machine.execRet_c s
  | .reti => Sys2Proof.Machine.execReti s
  | .nop => Sys2Proof.Machine.execNop s
  | .halt => Sys2Proof.Machine.execHalt s
  | .stop => Sys2Proof.Machine.execStop s
  | .di => Sys2Proof.Machine.execDi s
  | .ei => Sys2Proof.Machine.execEi s
  | .prefix_cb b => Sys2Proof.Machine.execPrefix_cb b s
  | .illegal op => Sys2Proof.Machine.execIllegal op s

end Sys2Proof.Machine
end

