-- ==== Sys2Proof/Machine/Step.lean ====
section
/-! DEFINITION. One step of the core (R140): the environment's `wake`, if it presents one now (R456), then the gates, then
fetch, decode and execute. -/

namespace Sys2Proof.Machine

/-- The `step` input (R140, R6): one whole instruction, or one idle step of a faulted, halted or stopped core. -/
def step (s : State) : Host.Outcome State Fault Refusal :=
  match s.takeWake.idleStep with
  | some t => .next t
  | none =>
    let (i, t) := s.takeWake.fetchInstr
    exec i t

/-- `s` with the instruction of a table row stored where `step` fetches its next instruction (log entries 9 and 10): its
bytes at PC, in ROM or as the collaborator's next answers, and the gates open. -/
def State.withFetchWord (s : State) (nbits w : Nat) : State :=
  let bytes := tableBytes nbits w
  let length := (instrFormat s.stopLength (bytes.headD 0)).length
  { s with fault := none, halted := false, stopped := false }.placeBytes s.pc (bytes.take length)

end Sys2Proof.Machine
end

