-- ==== Sys2Proof/Machine/Construct.lean ====
section
/-! DEFINITION. Construction, the core's only reset (R490, R491): the validation of the ROM image (R80 to R91,
20_memory.md), the header it yields, and the core it builds. -/

namespace Sys2Proof.Machine

/-- The result codes of a failed construction (R80, R463). MalformedTitleBytes is declared and never returned (R91). -/
inductive ConstructError where
  | romTooSmall
  | misalignedRomSize
  | logoMismatch
  | unrecognizedCartridgeType
  | unrecognizedRomSizeCode
  | unrecognizedRamSizeCode
  | malformedTitleBytes
  deriving DecidableEq, Repr

/-- The header fields (R84 to R90): parsed once at construction, read by no rule of the step (R48). -/
structure Header where
  title : List Byte
  licensee : Nat
  cgbSupport : Bool
  sgbSupport : Bool
  cartType : Byte
  romBanks : Nat
  ramBanks : Nat
  deriving DecidableEq, Repr

/-- The byte `b[i]` of an image (R80). -/
def imageByte (image : List Byte) (i : Nat) : Byte := image.getD i 0

/-- The ROM banks of a ROM-size code (R89). -/
def romBanksOf (k : Byte) : Option Nat :=
  if k.toNat ≤ 0x08 then some (2 ^ (k.toNat + 1))
  else if k = 0x52 then some 72
  else if k = 0x53 then some 80
  else if k = 0x54 then some 96
  else none

/-- The RAM banks of a RAM-size code (R90); 0x01 has none. -/
def ramBanksOf (k : Byte) : Option Nat :=
  if k = 0x00 then some 0
  else if k = 0x02 then some 1
  else if k = 0x03 then some 4
  else if k = 0x04 then some 16
  else if k = 0x05 then some 8
  else none

/-- An ASCII digit. -/
def isDigit (v : Byte) : Bool := decide (0x30 ≤ v.toNat) && decide (v.toNat ≤ 0x39)

/-- The licensee code (R85). The old scheme's byte is the one at 0x148, as written (C4 of 90_conflicts.md). In the new
scheme two ASCII digits are a decimal number; for other bytes the code is unspecified, a free value (log entry 15). -/
def licenseeOf (image : List Byte) : Nat :=
  let tens := imageByte image 0x144
  let units := imageByte image 0x145
  if imageByte image 0x14B = 0x33 then
    if isDigit tens && isDigit units then (tens.toNat - 0x30) * 10 + (units.toNat - 0x30)
    else Config.licenseeOfNonDigits tens units
  else (imageByte image 0x148).toNat

/-- The checks of R81 to R90 in their order, the first that fails decides, on the length of an image and its first 0x150
bytes. -/
def validateHeader (p : Params) (length : Nat) (front : List Byte) : Except ConstructError Header :=
  if length < 0x150 then .error .romTooSmall
  else if length % 16384 ≠ 0 then .error .misalignedRomSize
  else if (front.drop 0x104).take 48 ≠ p.logoBytes then .error .logoMismatch
  else if imageByte front 0x147 ∉ p.knownCartTypes then .error .unrecognizedCartridgeType
  else
    match romBanksOf (imageByte front 0x148), ramBanksOf (imageByte front 0x149) with
    | none, _ => .error .unrecognizedRomSizeCode
    | some _, none => .error .unrecognizedRamSizeCode
    | some romBanks, some ramBanks => .ok {
        title := (front.drop 0x134).take 16
        licensee := licenseeOf front
        cgbSupport := imageByte front 0x14B == 0x33 && (imageByte front 0x143 == 0x80 || imageByte front 0x143 == 0xC0)
        sgbSupport := imageByte front 0x146 == 0x03
        cartType := imageByte front 0x147
        romBanks := romBanks
        ramBanks := ramBanks }

/-- `ValidateRom` (R80): no check reads a byte after 0x14F. -/
def validateRom (p : Params) (image : List Byte) : Except ConstructError Header :=
  validateHeader p image.length (image.take 0x150)

/-- The canonical list of an image's bytes from an offset on: those that differ from the unlisted byte. -/
def imageCells : Nat → List Byte → List Host.Cell
  | _, [] => []
  | i, v :: rest => if v = Memory.unlisted i then imageCells (i + 1) rest else (i, v) :: imageCells (i + 1) rest

/-- Construction (R491): the error of the validation, or the core with the image as its ROM (R45, R65), the bank count of
its length (R46) and the bank index of R64; registers, flags, IME and gates as R60 to R63. It makes no bus access. -/
def construct (p : Params) (image : List Byte) : Except ConstructError State :=
  match validateRom p image with
  | .error err => .error err
  | .ok _ => .ok { State.reset with
      rom := imageCells 0 image
      bankCount := image.length / 16384
      currentIndex := if image.length / 16384 > 1 then 1 else 0
      romWritePolicy := p.romWritePolicy
      stopLength := p.stopLength }

/-- The base image of 95_test_vectors.md: 32 KiB, the default logo at 0x104-0x133, every other byte 0x00. -/
def baseImage : List Byte := (List.range 32768).map Memory.unlisted

end Sys2Proof.Machine
end

