-- ==== Sys2Proof/Safety.lean ====
section
/-! DEFINITION. What a well-formed state of the core is, and what it means that the core runs. Construction establishes the
invariant and every step keeps it. -/

namespace Sys2Proof.Machine

/-- No gate of the step procedure is closed: the next step executes an instruction (R140). -/
abbrev State.Running (s : State) : Prop := s.fault = none ∧ s.halted = false ∧ s.stopped = false

/-- At most one gate of the step procedure is closed (R140, R456). -/
abbrev State.GatesExclusive (s : State) : Prop :=
  (s.fault ≠ none → s.halted = false ∧ s.stopped = false) ∧ ¬(s.halted = true ∧ s.stopped = true)

/-- The cartridge part: at least one bank (R46, R70), the bank index of R64 and R76, below the bank count (R47). -/
abbrev State.BankOk (s : State) : Prop :=
  0 < s.bankCount ∧ s.currentIndex = (if 1 < s.bankCount then 1 else 0)

/-- The ROM list is canonical and names only offsets inside the image (R45, R72). -/
abbrev State.RomOk (s : State) : Prop :=
  Memory.wf s.rom = true ∧ ∀ cell ∈ s.rom, cell.1 < s.bankCount * 16384

/-- The invariant of the core. -/
abbrev State.Inv (s : State) : Prop := s.RomOk ∧ s.BankOk ∧ s.GatesExclusive

end Sys2Proof.Machine
end

