-- ==== Sys2Proof/Certificates/Slice0/Obligations.lean ====
section
/-! DEFINITION. The statements about the core. Those about instructions go through the opcode maps: an instruction is named
by its opcode byte, split into the fields of R121, so that a statement covers every form that its rule's encoding gives.
The opcode maps themselves and the cycle counts (R8, R497) are what the spec marks as general knowledge, and some flags and
choices are its decisions: the statements follow the spec there (log entry 20), and each says where. -/

namespace Sys2Proof.Claims

open Sys2Proof.Machine

/-- A byte from its fields x, y, z (R121). -/
def byteXYZ (x : BitVec 2) (y z : BitVec 3) : Byte := x ++ y ++ z

/-- A byte from its fields x, p, q, z (R121). -/
def byteXPQZ (x p : BitVec 2) (q : BitVec 1) (z : BitVec 3) : Byte := x ++ p ++ q ++ z

/-- The field y of a conditional form `0cc` (R382, R387, R390). -/
def cc0 (k : BitVec 2) : BitVec 3 := (0 : BitVec 1) ++ k

/-- The field y of JR cc, `1cc` (R385). -/
def cc1 (k : BitVec 2) : BitVec 3 := (1 : BitVec 1) ++ k

/-- Whether a condition code holds (R124, R380). -/
def holds (k : BitVec 2) (f : Flags) : Bool :=
  match k.toNat with
  | 0 => !f.z
  | 1 => f.z
  | 2 => !f.c
  | _ => f.c

/-- The forms of an ALU operation (R250): `AluForm y s i v s1 n` says that `i` is a form of operation `y`, that its source
operand read in `s` is `v`, that `s1` is the state after the read, and that its row has `n` cycles. -/
inductive AluForm (y : BitVec 3) (s : State) : Instr → Byte → State → Nat → Prop where
  | reg (z : BitVec 3) (r : Reg8) (lo hi : Byte) (h : Operand8.ofCode z = .reg r) :
      AluForm y s (baseInstr (byteXYZ 2 y z) lo hi) (s.reg8 r) s 4
  | atHL (lo hi : Byte) : AluForm y s (baseInstr (byteXYZ 2 y 6) lo hi) (s.memByte s.hl) (s.afterRead s.hl) 8
  | imm (n hi : Byte) : AluForm y s (baseInstr (byteXYZ 3 y 6) n hi) n s 8

/-- The two forms of a read-modify-write instruction on `r8` (R259 to R262, R334): `ModifyForm z s v s1 put n` says that the
operand of code `z` read in `s` is `v`, that `s1` is the state after the read, that `put` writes back, and `n` the cycles:
`reg` on a register, `mem` on (HL). -/
inductive ModifyForm (reg mem : Nat) (s : State) : BitVec 3 → Byte → State → (Byte → State) → Nat → Prop where
  | reg (z : BitVec 3) (r : Reg8) (h : Operand8.ofCode z = .reg r) :
      ModifyForm reg mem s z (s.reg8 r) s (fun w => s.setReg8 r w) reg
  | atHL : ModifyForm reg mem s 6 (s.memByte s.hl) (s.afterRead s.hl) (fun w => (s.afterRead s.hl).memWrite s.hl w) mem

/-- The result of a prefixed rotate or shift of code `y` on a byte, and the bit out, as arithmetic (R335 to R342). -/
def shiftArith (y : BitVec 3) (v c : Nat) : Nat × Nat :=
  match y.toNat with
  | 0 => ((2 * v + v / 128) % 256, v / 128)
  | 1 => (v / 2 + 128 * (v % 2), v % 2)
  | 2 => ((2 * v + c) % 256, v / 128)
  | 3 => (v / 2 + 128 * c, v % 2)
  | 4 => (2 * v % 256, v / 128)
  | 5 => (v / 2 + 128 * (v / 128), v % 2)
  | 6 => (v % 16 * 16 + v / 16, 0)
  | _ => (v / 2, v % 2)

/-- The state after the two reads of Pop16 (R97), and the word read. -/
def popped (s : State) : Word × State :=
  let s1 := { s.afterRead s.sp with sp := s.sp + 1 }
  (concat (s1.memByte (s.sp + 1)) (s.memByte s.sp), { s1.afterRead (s.sp + 1) with sp := s.sp + 2 })

/-- The state after the two writes of Push16 (R96). -/
def pushed (s : State) (v : Word) : State :=
  { (s.memWrite (s.sp - 1) (hiByte v)).memWrite (s.sp - 2) (loByte v) with sp := s.sp - 2 }

/-- The addresses that a prefixed instruction stores to: (HL) for the (HL) forms of the rotates, shifts, RES and SET (R334,
R344, R345); BIT stores nothing (R343). -/
def prefixedStoredTo (b : Byte) (s : State) : List Word :=
  if b.extractLsb' 0 3 = 6 ∧ b.extractLsb' 6 2 ≠ 1 then [s.hl] else []

/-- The addresses that the instruction of an opcode and its immediate bytes stores to, in order, by the expressions of its
rule in the state it executes in. -/
def storedTo (op lo hi : Byte) (s : State) : List Word :=
  if op ∈ [0x70, 0x71, 0x72, 0x73, 0x74, 0x75, 0x77, 0x36, 0x22, 0x32, 0x34, 0x35] then [s.hl]
  else if op = 0x02 then [s.bc]
  else if op = 0x12 then [s.de]
  else if op = 0xEA then [concat hi lo]
  else if op = 0xE0 then [0xFF00 + zext16 lo]
  else if op = 0xE2 then [0xFF00 + zext16 s.c]
  else if op = 0x08 then [concat hi lo, concat hi lo + 1]
  else if op ∈ [0xC5, 0xD5, 0xE5, 0xF5, 0xCD, 0xC7, 0xCF, 0xD7, 0xDF, 0xE7, 0xEF, 0xF7, 0xFF] then [s.sp - 1, s.sp - 2]
  else if op ∈ [0xC4, 0xCC, 0xD4, 0xDC] then
    if holds (op.extractLsb' 3 2) s.f then [s.sp - 1, s.sp - 2] else []
  else if op = 0xCB then prefixedStoredTo lo s
  else []

/-- The address of a write transaction. -/
def writeAddr : BusTxn → Option Word
  | .write addr _ => some addr
  | .read _ _ => none

/-- Whether a transaction is a read that the collaborator answers (R73). -/
def isExternalRead : BusTxn → Bool
  | .read addr _ => !isRom addr
  | .write _ _ => false

/-- What an instruction that stores to `stored` does on the bus (R75, R99): at most two transactions, newest first in the
record; its writes are those to `stored`, in order, but for a ROM address under IGNORE; the answers it takes are those of its
external reads. -/
def BusKept (stored : List Word) (s t : State) : Prop :=
  ∃ events : List BusTxn, t.bus = events ++ s.bus ∧ events.length ≤ 2 ∧
    events.reverse.filterMap writeAddr = stored.filter (fun w => !(isRom w && s.romWritePolicy == .ignore)) ∧
    t.extIn = s.extIn.drop (events.countP isExternalRead)

/-- Every ROM byte but those at `stored` reads as before. -/
def MemoryKept (stored : List Word) (s t : State) : Prop :=
  ∀ x : Word, isRom x = true → (∀ w ∈ stored, isRom w = true → s.romOffset w ≠ s.romOffset x) → t.memByte x = s.memByte x

/-- The base opcodes of the rows of the flag table (after R38) that write a flag. -/
def writesFlags (op : Byte) : Bool :=
  (0x80 ≤ op.toNat && op.toNat ≤ 0xBF) || op ∈ [0xC6, 0xCE, 0xD6, 0xDE, 0xE6, 0xEE, 0xF6, 0xFE] ||
  op ∈ [0x04, 0x0C, 0x14, 0x1C, 0x24, 0x2C, 0x34, 0x3C] || op ∈ [0x05, 0x0D, 0x15, 0x1D, 0x25, 0x2D, 0x35, 0x3D] ||
  op ∈ [0x27, 0x2F, 0x37, 0x3F] || op ∈ [0x09, 0x19, 0x29, 0x39] || op ∈ [0xE8, 0xF8] ||
  op ∈ [0x07, 0x0F, 0x17, 0x1F] || op = 0xF1 || op = 0xCB

/-- The base opcodes of the control-transfer rules R381 to R391. -/
def writesPc (op : Byte) : Bool :=
  op ∈ [0xC3, 0xC2, 0xCA, 0xD2, 0xDA, 0xE9] || op ∈ [0x18, 0x20, 0x28, 0x30, 0x38] ||
  op ∈ [0xCD, 0xC4, 0xCC, 0xD4, 0xDC] || op ∈ [0xC7, 0xCF, 0xD7, 0xDF, 0xE7, 0xEF, 0xF7, 0xFF] ||
  op ∈ [0xC9, 0xC0, 0xC8, 0xD0, 0xD8, 0xD9]

/-- The base opcodes that R33 names as writing SP: LD SP, INC/DEC SP, ADD SP, and the stack instructions. -/
def writesSp (op : Byte) : Bool :=
  op ∈ [0x31, 0x33, 0x3B, 0xE8, 0xF9] || op ∈ [0xC1, 0xD1, 0xE1, 0xF1] || op ∈ [0xC5, 0xD5, 0xE5, 0xF5] ||
  op ∈ [0xCD, 0xC4, 0xCC, 0xD4, 0xDC] || op ∈ [0xC7, 0xCF, 0xD7, 0xDF, 0xE7, 0xEF, 0xF7, 0xFF] ||
  op ∈ [0xC9, 0xC0, 0xC8, 0xD0, 0xD8, 0xD9]

/-- `n` bytes fetched one after the other (R130), and the state after. -/
def fetchBytes : Nat → State → List Byte × State
  | 0, s => ([], s)
  | n + 1, s =>
    let (b, s1) := s.fetch8
    let (bs, s2) := fetchBytes n s1
    (b :: bs, s2)

/-- The packed-decimal byte of a number below 100. -/
def bcd (n : Nat) : Byte := BitVec.ofNat 8 (n / 10 * 16 + n % 10)

end Sys2Proof.Claims

open Sys2Proof Sys2Proof.Machine Sys2Proof.Claims

/-! ### Reset and construction -/

/-- R60 to R64: what construction leaves in the registers, the flags, IME, the gates and the bank index. The spec marks
the flag order of R36 as general knowledge and decision D5, R61 as derived, and R62 and R63 as decision D20 (log entry
20). The bank count of the reset state is that of the reset image, the model's choice (log entry 7). -/
def Obligations.ResetValues : Prop :=
  State.reset.a = 0x01 ∧ State.reset.b = 0x00 ∧ State.reset.c = 0x13 ∧ State.reset.d = 0x00 ∧
  State.reset.e = 0xD8 ∧ State.reset.h = 0x01 ∧ State.reset.l = 0x4D ∧
  State.reset.sp = 0xFFFE ∧ State.reset.pc = 0x0100 ∧ State.reset.af = 0x01B0 ∧
  State.reset.f = { z := true, n := false, h := true, c := true } ∧ State.reset.ime = false ∧
  State.reset.halted = false ∧ State.reset.stopped = false ∧ State.reset.fault = none ∧
  State.reset.currentIndex = (if State.reset.bankCount > 1 then 1 else 0)

/-- R64, R65 (and R46, R60 to R63, R491): a constructed core has the reset registers, the image as its ROM byte for byte,
the bank count of the image's length, the bank index of R64, and has made no bus access. The spec marks the bank count as
decision D15, and IME, halted, stopped and fault at reset as decision D20 (log entry 20); that no access was made is said
by the record of log entry 4. The parameters as fields of the state are log entry 6; that they are given at construction
is decision D13 for the write policy and D18 for STOP_LENGTH, and construction as the only reset is decision D21 (log
entry 20). -/
def Obligations.ConstructBuildsTheImage : Prop :=
  ∀ (p : Params) (image : List Byte) (t : State), construct p image = .ok t →
    (∀ k < image.length, Memory.read t.rom k = image.getD k 0) ∧
    t.bankCount = image.length / 16384 ∧ 1 ≤ t.bankCount ∧
    t.currentIndex = (if t.bankCount > 1 then 1 else 0) ∧
    t.af = 0x01B0 ∧ t.bc = 0x0013 ∧ t.de = 0x00D8 ∧ t.hl = 0x014D ∧ t.sp = 0xFFFE ∧ t.pc = 0x0100 ∧
    t.ime = false ∧ t.halted = false ∧ t.stopped = false ∧ t.fault = none ∧ t.bus = [] ∧
    t.romWritePolicy = p.romWritePolicy ∧ t.stopLength = p.stopLength

/-- R80 to R83, R88 to R91: the validation applies its checks in order and stops at the first that fails; it never gives
MalformedTitleBytes. The spec marks the ROM-size codes' bank count as decision D15, and the logo and cartridge types,
which are parameters here, as decision D23 (log entry 20). -/
def Obligations.ValidationOrder : Prop :=
  ∀ (p : Params) (image : List Byte),
    let b := imageByte image
    let sizeOk := (b 0x148).toNat ≤ 0x08 ∨ b 0x148 = 0x52 ∨ b 0x148 = 0x53 ∨ b 0x148 = 0x54
    let ramOk := b 0x149 = 0x00 ∨ b 0x149 = 0x02 ∨ b 0x149 = 0x03 ∨ b 0x149 = 0x04 ∨ b 0x149 = 0x05
    if image.length < 0x150 then validateRom p image = .error .romTooSmall
    else if image.length % 16384 ≠ 0 then validateRom p image = .error .misalignedRomSize
    else if (image.drop 0x104).take 48 ≠ p.logoBytes then validateRom p image = .error .logoMismatch
    else if b 0x147 ∉ p.knownCartTypes then validateRom p image = .error .unrecognizedCartridgeType
    else if ¬ sizeOk then validateRom p image = .error .unrecognizedRomSizeCode
    else if ¬ ramOk then validateRom p image = .error .unrecognizedRamSizeCode
    else ∃ h, validateRom p image = .ok h ∧ h.title = (image.drop 0x134).take 16 ∧ h.cartType = b 0x147 ∧
      h.romBanks = (if b 0x148 = 0x52 then 72 else if b 0x148 = 0x53 then 80 else if b 0x148 = 0x54 then 96
        else 2 ^ ((b 0x148).toNat + 1)) ∧
      h.ramBanks = (if b 0x149 = 0x00 then 0 else if b 0x149 = 0x02 then 1 else if b 0x149 = 0x03 then 4
        else if b 0x149 = 0x04 then 16 else 8) ∧
      (b 0x14B ≠ 0x33 → h.licensee = (b 0x148).toNat) ∧
      (∀ x y : Nat, x < 10 → y < 10 → b 0x14B = 0x33 → b 0x144 = BitVec.ofNat 8 (0x30 + x) →
        b 0x145 = BitVec.ofNat 8 (0x30 + y) → h.licensee = 10 * x + y) ∧
      (h.cgbSupport = true ↔ b 0x14B = 0x33 ∧ (b 0x143 = 0x80 ∨ b 0x143 = 0xC0)) ∧
      (h.sgbSupport = true ↔ b 0x146 = 0x03)

/-- R64: the bank index of a constructed core, whatever the image and the parameters. -/
def Obligations.BankIndexAtConstruction : Prop :=
  ∀ (p : Params) (image : List Byte) (t : State), construct p image = .ok t →
    t.currentIndex = (if t.bankCount > 1 then 1 else 0)

/-- R81, R82: the size check and the alignment check decide before anything else of the image or a parameter, in the
validation and in the construction. -/
def Obligations.SizeChecks : Prop :=
  ∀ (p : Params) (image : List Byte),
    (image.length < 0x150 →
      validateRom p image = .error .romTooSmall ∧ construct p image = .error .romTooSmall) ∧
    (0x150 ≤ image.length → image.length % 16384 ≠ 0 →
      validateRom p image = .error .misalignedRomSize ∧ construct p image = .error .misalignedRomSize)

/-- The reset state is the core that construction builds from the base image of 95_test_vectors.md with the default
parameters (the choice of that image is the model's: log entry 7; so are the ports, the parameters in State and the inputs
before the first step: log entries 2 to 6). -/
def Obligations.ResetIsConstruction : Prop := construct Params.default baseImage = .ok State.reset

/-! ### The invariant -/

/-- The reset state meets the invariant. The image of the reset state is the model's choice (log entry 7); the spec marks
the bank count as decision D15 and the gates at reset as decision D20 (log entry 20). -/
def Obligations.ResetMeetsInvariant : Prop := State.reset.Inv

/-- Every constructed core meets the invariant. The spec marks the bank count from the length as decision D15 (log entry
20). The gates at construction are decision D20 (log entry 20). -/
def Obligations.ConstructionMeetsInvariant : Prop :=
  ∀ (p : Params) (image : List Byte) (t : State), construct p image = .ok t → t.Inv

/-- Every step keeps the invariant: the ROM list stays canonical and inside the image, the bank index is that of R64, and
at most one gate is closed. The spec marks the fixed bank index as decision D14 and the gates as decisions D16 to D18 (log
entry 20). -/
def Obligations.StepKeepsInvariant : Prop :=
  ∀ s t : State, s.Inv → step s = .next t → t.Inv

/-! ### No step stops -/

/-- Every instruction completes with a next state, in every state and for every operand. That the illegal marker answers a
next state is the form chosen in log entry 12, and the state after it is R452, which the spec marks as decision D16. What
HALT and STOP do is decisions D17 and D18. That there is one mode and no instruction is privileged (R458) is decision D27.
That an external read always has a byte is decision D24, in the form of log entries 1 and 2 (for the decisions, log entry
20). -/
def Obligations.EveryInstructionCompletes : Prop :=
  ∀ (i : Instr) (s : State), ∃ t, exec i s = .next t

/-- No run of the core ever stops. That a run goes on after a fault, a HALT or a STOP rests on what the spec marks as
decisions: the sticky fault (R453, and the state after the fault, R452) is D16, the idle steps of HALT and STOP (R140) are
D17 and D18 (log entry 20); taking the fault as a next state is the form chosen in log entry 12. The wake events of a run
are those of the schedule of log entry 3. -/
def Obligations.EveryRunGoesOn : Prop :=
  ∀ (n : Nat) (s : State), ∃ t, Host.Core.run Sys2Proof.core n s = .next t

/-! ### Decoding -/

/-- The decoder gives back every well-formed instruction from its encoding, whatever follows it. The opcode maps and
formats are general knowledge (log entry 20). STOP's second byte is decision D18 (log entry 20), and that the encoder
writes 0x00 there is log entry 13. -/
def Obligations.DecodeOfEncode : Prop :=
  ∀ (p : StopLength) (i : Instr) (rest : List Byte), i.wellFormed = true →
    decode p (encode p i ++ rest) = .ok (i, rest)

/-- The encoder gives back the bytes that were decoded; STOP's second byte alone is ignored (R422). The opcode maps and
formats are general knowledge (log entry 20). STOP's ignored second byte is decisions D18 and D32 (log entry 20). -/
def Obligations.EncodeOfDecode : Prop :=
  ∀ (p : StopLength) (bytes rest : List Byte) (i : Instr), decode p bytes = .ok (i, rest) →
    i.wellFormed = true ∧
    (encode p i ++ rest = bytes ∨ (i = .stop ∧ p = .two ∧ ∃ b : Byte, bytes = 0x10 :: b :: rest))

/-- Decoding is closed and exhaustive (R135): with three bytes at hand every opcode decodes. The opcode maps and formats
are general knowledge (log entry 20). STOP's second byte is decision D18 (log entry 20). -/
def Obligations.DecodeIsTotal : Prop :=
  ∀ (p : StopLength) (op b1 b2 : Byte) (rest : List Byte), ∃ i rest',
    decode p (op :: b1 :: b2 :: rest) = .ok (i, rest') ∧ i.wellFormed = true ∧
    rest'.length + (instrFormat p op).length = rest.length + 3

/-- R134: the eleven illegal entries, which of the opcodes they are, that no byte after one is fetched, and what executing
one does. The cycles of such a step (R497) are decision D22 (log entry 20). The spec marks ten of the eleven bytes as
general knowledge and decision D4 (G19), and what executing the marker does, the fault set and nothing else changed
(R452), as decision D16 (log entry 20). One constructor for the eleven bytes and a next state as its answer are the form
chosen in log entry 12. -/
def Obligations.IllegalEntries : Prop :=
  (∀ op lo hi x : Byte, baseInstr op lo hi = .illegal x ↔
    x = op ∧ op ∈ [0xD3, 0xDB, 0xDD, 0xE3, 0xE4, 0xEB, 0xEC, 0xED, 0xF4, 0xFC, 0xFD]) ∧
  (∀ (p : StopLength) (op lo hi : Byte), baseInstr op lo hi = .illegal op → instrFormat p op = .op) ∧
  (∀ (op : Byte) (s : State),
    exec (.illegal op) s = .next { s with fault := some op, status := .illegal op, cycles := 0 })

/-- Words written out from the maps of R132 and R133, one or two per family. The spec marks the byte placement of both
maps as general knowledge (log entry 20). The numbering of the bits of a table word is log entry 10. -/
def Obligations.DecodedWords : Prop :=
  decodeTableWord 8 0x00 = some .nop ∧ decodeTableWord 8 0x3E = some (.ld_a_n8 0) ∧
  decodeTableWord 8 0x41 = some .ld_b_c ∧ decodeTableWord 8 0x9E = some .sbc_a_atHL ∧
  decodeTableWord 8 0x39 = some .add_hl_sp ∧ decodeTableWord 8 0xDC = some (.call_c_n16 0) ∧
  decodeTableWord 8 0xD3 = some (.illegal 0xD3) ∧ decodeTableWord 16 0xCB37 = some .swap_a ∧
  decodeTableWord 16 0xCB7C = some .bit_7_h ∧ decodeTableWord 16 0xCBCB = some .set_1_e ∧
  decode .two [0x20, 0xFE] = .ok (.jr_nz_e8 0xFE, []) ∧
  decode .two [0xC3, 0x50, 0x01] = .ok (.jp_n16 0x0150, []) ∧
  decode .two [0xCB, 0x16, 0x7E] = .ok (.rl_atHL, [0x7E])

/-- R425: the escape executes the prefixed instruction of its second byte, and the two bytes are one instruction. The
opcode maps and formats are general knowledge (log entry 20). The escape as a constructor of its own is log entry 11. -/
def Obligations.PrefixEscape : Prop :=
  (∀ (b : Byte) (s : State), ∃ t, exec (.prefix_cb b) s = .next t ∧ exec (prefixedInstr b) s = .next t) ∧
  (∀ (p : StopLength) (b : Byte) (rest : List Byte), decode p (0xCB :: b :: rest) = .ok (prefixedInstr b, rest)) ∧
  (∀ b x : Byte, prefixedInstr b ≠ .illegal x)

/-! ### The step -/

/-- The step of a running core: the bytes at PC are an instruction, and the step is its execution in the state after they
were fetched, where PC is past them. The spec marks the wrap of PC as decision D11 and the lengths of the formats as
general knowledge (log entry 20). That the gates are open before such a step is decisions D16, D17 and D18, and STOP's
second byte decision D18 (log entry 20). A fetch outside ROM takes its byte, and the record its transaction, in the form
of log entries 1, 2 and 4. -/
def Obligations.StepRunsDecoded : Prop :=
  (∀ (s : State) (n : Nat) (i : Instr), s.takeWake.Running →
    decode s.stopLength (fetchBytes n s.takeWake).1 = .ok (i, []) →
    step s = exec i (fetchBytes n s.takeWake).2 ∧
    (fetchBytes n s.takeWake).2.pc = s.pc + BitVec.ofNat 16 n) ∧
  (∀ s : State, s.takeWake.Running → ∃ n i, 1 ≤ n ∧ n ≤ 3 ∧
    decode s.stopLength (fetchBytes n s.takeWake).1 = .ok (i, []))

/-- The gates of R140, in their order, after the environment's event: an idle step reports and does nothing else. The spec
marks the gates as decisions D16, D17 and D18, and the idle cycles as decision D22 (log entry 20). The statuses HALTED and
STOPPED are decision D3 (log entry 20). -/
def Obligations.GatesInOrder : Prop :=
  ∀ s : State,
    (∀ op, s.takeWake.fault = some op →
      step s = .next { s.takeWake with status := .illegal op, cycles := 0 }) ∧
    (s.takeWake.fault = none → s.takeWake.halted = true →
      step s = .next { s.takeWake with status := .halted, cycles := 4 }) ∧
    (s.takeWake.fault = none → s.takeWake.halted = false → s.takeWake.stopped = true →
      step s = .next { s.takeWake with status := .stopped, cycles := 4 })

/-- R453: from the faulting step on, every step reports the fault with cycles 0, makes no access and changes no state but
what `wake` may clear; `wake` does not clear the fault. The cycles of such a step (R497) are decision D22 (log entry 20).
The spec marks the sticky form as decision D16 (log entry 20). The wake schedule is the model's form of the wake input
(log entry 3). -/
def Obligations.FaultIsSticky : Prop :=
  ∀ (n : Nat) (s : State) (op : Byte), s.fault = some op →
    ∃ t, Host.Core.run Sys2Proof.core n s = .next t ∧ t.fault = some op ∧
      (0 < n → t.status = .illegal op ∧ t.cycles = 0) ∧
      (s.halted = false → s.stopped = false →
        { t with status := s.status, cycles := s.cycles } = { s with wakeIn := s.wakeIn.drop n })

/-- R421, R422, R461: a halted or a stopped core does nothing until `wake` is presented, and everything survives. The
cycles of such a step (R497) are decision D22 (log entry 20). The spec marks what halted and stopped do as decisions D17
and D18, and the statuses as decision D3 (log entry 20). The wake schedule is the model's form of the wake input (log
entry 3). -/
def Obligations.IdleUntilWake : Prop :=
  ∀ (n : Nat) (s : State), s.fault = none → (s.halted = true ∨ s.stopped = true) →
    (∀ k < n, s.wakeIn.getD k false = false) →
    ∃ t, Host.Core.run Sys2Proof.core n s = .next t ∧
      { t with status := s.status, cycles := s.cycles } = { s with wakeIn := s.wakeIn.drop n } ∧
      (0 < n → t.cycles = 4 ∧ t.status = (if s.halted then .halted else .stopped))

/-- R427: `wake` clears `halted` and `stopped` and nothing else; a faulted core stays faulted; the next step of any other
core fetches from the PC it has. The spec marks the input as decisions D17 and D18, and the fault that stays as decision
D16 (log entry 20). The wake schedule is the model's form of the input (log entry 3). The cycles of the faulted step are
decision D22 (log entry 20). -/
def Obligations.WakeInput : Prop :=
  (∀ s : State, s.wake = { s with halted := false, stopped := false }) ∧
  (∀ (s : State) (rest : List Bool), s.wakeIn = true :: rest →
    let u := { s with wakeIn := rest, halted := false, stopped := false }
    (∀ op, s.fault = some op → step s = .next { u with status := .illegal op, cycles := 0 }) ∧
    (s.fault = none → step s = exec u.fetchInstr.1 u.fetchInstr.2))

/-! ### Whole-machine rules -/

/-- R76 (and R45 to R48, R75): no step changes the bank index, the bank count or a parameter, and under IGNORE none
changes a ROM byte. The spec marks R76 as decision D14 and the write policy as decision D13 (log entry 20). The parameters
as fields of the state are log entry 6. -/
def Obligations.WhatNoStepChanges : Prop :=
  (∀ s t : State, step s = .next t →
    t.currentIndex = s.currentIndex ∧ t.bankCount = s.bankCount ∧
    t.romWritePolicy = s.romWritePolicy ∧ t.stopLength = s.stopLength) ∧
  (∀ s t : State, s.romWritePolicy = .ignore → step s = .next t → t.rom = s.rom)

/-- R41 to R44: DI writes 0 to IME, EI and RETI write 1, no other instruction writes it; only HALT sets `halted`, only
STOP sets `stopped`, only the illegal marker sets the fault, and no instruction clears one. The spec marks that DI, EI and
RETI write at once as decision D19 and the three gates as decisions D16, D17 and D18 (log entry 20). The illegal marker as
one constructor with a next state is the form chosen in log entry 12. -/
def Obligations.ControlBitWriters : Prop :=
  ∀ (i : Instr) (s t : State), exec i s = .next t →
    t.ime = (if i = .di then false else if i = .ei ∨ i = .reti then true else s.ime) ∧
    t.halted = (decide (i = .halt) || s.halted) ∧ t.stopped = (decide (i = .stop) || s.stopped) ∧
    (∀ op, i = .illegal op → t.fault = some op) ∧ ((∀ op, i ≠ .illegal op) → t.fault = s.fault)

/-- After its fetch an instruction makes at most two bus transactions; its writes are those to the addresses it stores to,
in their order, but for a ROM address under IGNORE (R75, R99). The spec marks the order of accesses as decision D25, the
wrap of the second address as decision D12, a call that is not taken as decision D10 and the write policy as decision D13
(log entry 20). The opcode maps and formats are general knowledge (log entry 20). The record of transactions and the list
of answers are the model's own (log entries 2 and 4). -/
def Obligations.BusFrame : Prop :=
  ∀ s t : State,
    (∀ op lo hi : Byte, exec (baseInstr op lo hi) s = .next t → BusKept (storedTo op lo hi s) s t) ∧
    (∀ b : Byte, exec (prefixedInstr b) s = .next t → BusKept (prefixedStoredTo b s) s t)

/-- The frame of memory: every ROM byte but those at the addresses that the instruction stores to reads as before; an
instruction that stores nothing leaves all of them. The spec marks the wrap of the second address as decision D12, a call
that is not taken as decision D10 and the write policy as decision D13 (log entry 20). The opcode maps and formats are
general knowledge (log entry 20). That memory outside ROM is no state of the core is log entry 14. -/
def Obligations.MemoryFrame : Prop :=
  ∀ s t : State,
    (∀ op lo hi : Byte, exec (baseInstr op lo hi) s = .next t → MemoryKept (storedTo op lo hi s) s t) ∧
    (∀ b : Byte, exec (prefixedInstr b) s = .next t → MemoryKept (prefixedStoredTo b s) s t)

/-- The flag table after R38, R33, R34: an instruction outside the table's rows writes no flag, and neither do RES and
SET; only control transfers write PC once the instruction is fetched, and only the instructions that R33 names write SP.
The spec marks that INC and DEC of a pair write no flag as general knowledge and decision D6 (log entry 20). The opcode
maps and formats are general knowledge (log entry 20). That a conditional form writes PC only where it is taken is
decision D10, and that the illegal marker changes nothing but the fault is decision D16 (log entry 20). -/
def Obligations.FlagPcSpFrame : Prop :=
  (∀ (op lo hi : Byte) (s t : State), writesFlags op = false → exec (baseInstr op lo hi) s = .next t → t.f = s.f) ∧
  (∀ (b : Byte) (s t : State), 0x80 ≤ b.toNat → exec (prefixedInstr b) s = .next t → t.f = s.f) ∧
  (∀ (op lo hi : Byte) (s t : State), writesPc op = false → exec (baseInstr op lo hi) s = .next t → t.pc = s.pc) ∧
  (∀ (op lo hi : Byte) (s t : State), writesSp op = false → exec (baseInstr op lo hi) s = .next t → t.sp = s.sp) ∧
  (∀ (b : Byte) (s t : State), exec (prefixedInstr b) s = .next t → t.pc = s.pc ∧ t.sp = s.sp)

/-! ### Memory -/

/-- R71, R72: the mux. Bank 0, the current bank at `address - 0x4000`, the external window; with one bank both windows
show the same bytes; every index is inside the image. The spec marks the range of the index and the one-bank alias as
derived (log entry 20). The answer to an external read has the form of log entries 1 and 2; what an unlisted ROM byte
reads as is log entries 7 and 8. -/
def Obligations.BankedMux : Prop :=
  (∀ (s : State) (x : Word), x.toNat ≤ 0x3FFF → s.memByte x = Memory.read s.rom x.toNat) ∧
  (∀ (s : State) (x : Word), 0x4000 ≤ x.toNat → x.toNat ≤ 0x7FFF →
    s.memByte x = Memory.read s.rom (s.currentIndex * 16384 + (x.toNat - 0x4000))) ∧
  (∀ (s : State) (x : Word), 0x8000 ≤ x.toNat → s.memByte x = s.extByte x) ∧
  (∀ (s : State) (x : Word), s.BankOk → s.bankCount = 1 → x.toNat ≤ 0x3FFF →
    s.memByte (x + 0x4000) = s.memByte x) ∧
  (∀ (s : State) (x : Word), s.BankOk → x.toNat ≤ 0x7FFF → s.romOffset x < s.bankCount * 16384)

/-- R75 under STORE, R496: a write to a ROM window sets the byte, at every address that shows it, for data reads and for
fetches; every other ROM byte is unchanged, and the transaction is on the bus. The spec marks the write policy as decision
D13 (log entry 20). The record of transactions is the model's own (log entry 4). -/
def Obligations.StoreSetsTheByte : Prop :=
  ∀ (s : State) (x y : Word) (v : Byte), Memory.wf s.rom = true → s.romWritePolicy = .store →
    isRom x = true → isRom y = true →
    (s.romOffset y = s.romOffset x →
      (s.memWrite x v).memByte y = v ∧ ({ s.memWrite x v with pc := y }).fetch8.1 = v) ∧
    (s.romOffset y ≠ s.romOffset x → (s.memWrite x v).memByte y = s.memByte y) ∧
    (s.memWrite x v).bus = .write x v :: s.bus ∧ Memory.wf (s.memWrite x v).rom = true

/-- R73, R74, and R75 under IGNORE: an external read is one transaction that changes no state of the core and may return
any byte, whatever was written before; an external write is its transaction and nothing else; a ROM write under IGNORE is
nothing at all. The free draw is decision D24; the list of answers and the record are the model's choices (log entries 1,
2 and 4); the write policy as a parameter is decision D13 (log entries 6 and 20). -/
def Obligations.ExternalAccesses : Prop :=
  (∀ (s : State) (x : Word) (v : Byte), 0x8000 ≤ x.toNat →
    ({ s with extIn := v :: s.extIn }).memRead x = (v, { s with bus := .read x v :: s.bus })) ∧
  (∀ (s : State) (x : Word) (v : Byte), 0x8000 ≤ x.toNat → s.memWrite x v = { s with bus := .write x v :: s.bus }) ∧
  (∀ (s : State) (x : Word) (v : Byte), x.toNat ≤ 0x7FFF → s.romWritePolicy = .ignore → s.memWrite x v = s)

/-- R96, R97: where the stack is in ROM under STORE, a pop after a push gives the word back and restores SP. The spec
marks the wrap of the second address as decision D12 and the write policy as decision D13 (log entry 20). -/
def Obligations.PopAfterPush : Prop :=
  ∀ (s : State) (v : Word), Memory.wf s.rom = true → s.romWritePolicy = .store →
    isRom (s.sp - 1) = true → isRom (s.sp - 2) = true →
    (s.push16 v).pop16.1 = v ∧ (s.push16 v).pop16.2.sp = s.sp ∧ (s.push16 v).pop16.2.rom = (s.push16 v).rom

/-! ### The register views -/

/-- R31: the pair views are bijective with their halves, and nothing else is aliased. The spec marks which register is the
high half as general knowledge (log entry 20). -/
def Obligations.PairViews : Prop :=
  ∀ (s : State) (v : Word),
    s.bc.toNat = s.b.toNat * 256 + s.c.toNat ∧ s.de.toNat = s.d.toNat * 256 + s.e.toNat ∧
    s.hl.toNat = s.h.toNat * 256 + s.l.toNat ∧
    (s.setBC v).bc = v ∧ (s.setDE v).de = v ∧ (s.setHL v).hl = v ∧
    s.setBC v = { s with b := (s.setBC v).b, c := (s.setBC v).c } ∧
    s.setDE v = { s with d := (s.setDE v).d, e := (s.setDE v).e } ∧
    s.setHL v = { s with h := (s.setHL v).h, l := (s.setHL v).l } ∧
    s.setBC s.bc = s ∧ s.setDE s.de = s ∧ s.setHL s.hl = s

/-- R36 to R38: the layout of F, and the AF view with its low nibble always zero. The spec marks the bit order of F as
general knowledge and decision D5 (log entry 20). -/
def Obligations.AfView : Prop :=
  ∀ (s : State) (v : Word),
    s.f.pack.toNat = s.f.z.toNat * 0x80 + s.f.n.toNat * 0x40 + s.f.h.toNat * 0x20 + s.f.c.toNat * 0x10 ∧
    s.af.toNat = s.a.toNat * 256 + s.f.pack.toNat ∧ s.af.toNat % 16 = 0 ∧
    (s.setAF v).af = v &&& 0xFFF0 ∧
    s.setAF v = { s with
      a := BitVec.ofNat 8 (v.toNat / 256)
      f := { z := v.getLsbD 7, n := v.getLsbD 6, h := v.getLsbD 5, c := v.getLsbD 4 } }

/-! ### Loads, stores, stack transfers -/

/-- R200: LD r,r' (49 forms). The opcode bytes and the cycle counts (R497) are general knowledge (log entry 20). -/
def Obligations.LoadRegReg : Prop :=
  ∀ (y z : BitVec 3) (r r' : Reg8) (lo hi : Byte) (s : State),
    Operand8.ofCode y = .reg r → Operand8.ofCode z = .reg r' →
    exec (baseInstr (byteXYZ 1 y z) lo hi) s = .next ((s.setReg8 r (s.reg8 r')).report .ok 4)

/-- R201, R202: LD r,(HL) and LD (HL),r (7 forms each). The opcode bytes and the cycle counts (R497) are general knowledge
(log entry 20). -/
def Obligations.LoadRegMem : Prop :=
  ∀ (y : BitVec 3) (r : Reg8) (lo hi : Byte) (s : State), Operand8.ofCode y = .reg r →
    exec (baseInstr (byteXYZ 1 y 6) lo hi) s =
      .next (((s.afterRead s.hl).setReg8 r (s.memByte s.hl)).report .ok 8) ∧
    exec (baseInstr (byteXYZ 1 6 y) lo hi) s = .next ((s.memWrite s.hl (s.reg8 r)).report .ok 8)

/-- R203, R204: LD r,n8 (7 forms) and LD (HL),n8. The opcode bytes and the cycle counts (R497) are general knowledge (log
entry 20). -/
def Obligations.LoadImmediate : Prop :=
  (∀ (y : BitVec 3) (r : Reg8) (n hi : Byte) (s : State), Operand8.ofCode y = .reg r →
    exec (baseInstr (byteXYZ 0 y 6) n hi) s = .next ((s.setReg8 r n).report .ok 8)) ∧
  (∀ (n hi : Byte) (s : State), exec (baseInstr 0x36 n hi) s = .next ((s.memWrite s.hl n).report .ok 12))

/-- R205 to R212: A through BC, DE, HL+ and HL-; the address is the old HL, and HL wraps. The opcode bytes and the cycle
counts (R497) are general knowledge (log entry 20). -/
def Obligations.LoadAccIndirect : Prop :=
  ∀ (lo hi : Byte) (s : State),
    exec (baseInstr 0x0A lo hi) s = .next ({ s.afterRead s.bc with a := s.memByte s.bc }.report .ok 8) ∧
    exec (baseInstr 0x1A lo hi) s = .next ({ s.afterRead s.de with a := s.memByte s.de }.report .ok 8) ∧
    exec (baseInstr 0x02 lo hi) s = .next ((s.memWrite s.bc s.a).report .ok 8) ∧
    exec (baseInstr 0x12 lo hi) s = .next ((s.memWrite s.de s.a).report .ok 8) ∧
    exec (baseInstr 0x2A lo hi) s =
      .next ({ (s.afterRead s.hl).setHL (s.hl + 1) with a := s.memByte s.hl }.report .ok 8) ∧
    exec (baseInstr 0x3A lo hi) s =
      .next ({ (s.afterRead s.hl).setHL (s.hl - 1) with a := s.memByte s.hl }.report .ok 8) ∧
    exec (baseInstr 0x22 lo hi) s = .next (((s.memWrite s.hl s.a).setHL (s.hl + 1)).report .ok 8) ∧
    exec (baseInstr 0x32 lo hi) s = .next (((s.memWrite s.hl s.a).setHL (s.hl - 1)).report .ok 8)

/-- R213 to R218: A through a16 and through the high page; the high-page address is 0xFF00 plus the offset. The opcode
bytes and the cycle counts (R497) are general knowledge (log entry 20). -/
def Obligations.LoadAccAbsolute : Prop :=
  ∀ (lo hi : Byte) (s : State),
    let at16 := BitVec.ofNat 16 (hi.toNat * 256 + lo.toNat)
    let page := BitVec.ofNat 16 (0xFF00 + lo.toNat)
    let pageC := BitVec.ofNat 16 (0xFF00 + s.c.toNat)
    exec (baseInstr 0xFA lo hi) s = .next ({ s.afterRead at16 with a := s.memByte at16 }.report .ok 16) ∧
    exec (baseInstr 0xEA lo hi) s = .next ((s.memWrite at16 s.a).report .ok 16) ∧
    exec (baseInstr 0xF0 lo hi) s = .next ({ s.afterRead page with a := s.memByte page }.report .ok 12) ∧
    exec (baseInstr 0xE0 lo hi) s = .next ((s.memWrite page s.a).report .ok 12) ∧
    exec (baseInstr 0xF2 lo hi) s = .next ({ s.afterRead pageC with a := s.memByte pageC }.report .ok 8) ∧
    exec (baseInstr 0xE2 lo hi) s = .next ((s.memWrite pageC s.a).report .ok 8)

/-- R219 to R221: the 16-bit loads; LD (a16),SP stores the low byte first, and its second address wraps. The spec marks
the wrap of the second address of LD (a16),SP as decision D12 (log entry 20). The opcode bytes and the cycle counts (R497)
are general knowledge (log entry 20). -/
def Obligations.LoadSixteen : Prop :=
  (∀ (p : BitVec 2) (lo hi : Byte) (s : State),
    exec (baseInstr (byteXPQZ 0 p 0 1) lo hi) s =
      .next ((s.setReg16 (Reg16.ofCode p) (BitVec.ofNat 16 (hi.toNat * 256 + lo.toNat))).report .ok 12)) ∧
  (∀ (lo hi : Byte) (s : State),
    exec (baseInstr 0x08 lo hi) s =
      .next (((s.memWrite (concat hi lo) (BitVec.ofNat 8 s.sp.toNat)).memWrite
        (BitVec.ofNat 16 (hi.toNat * 256 + lo.toNat + 1)) (BitVec.ofNat 8 (s.sp.toNat / 256))).report .ok 20)) ∧
  (∀ (lo hi : Byte) (s : State), exec (baseInstr 0xF9 lo hi) s = .next ({ s with sp := s.hl }.report .ok 8))

/-- R223 to R225: PUSH (4 forms), POP (3 forms) and POP AF, which loads the four flags from bits 7 to 4. The spec marks
the place of each flag in the byte of AF as general knowledge and decision D5, and the wrap of the second address as
decision D12 (log entry 20). The opcode bytes and the cycle counts (R497) are general knowledge (log entry 20). -/
def Obligations.PushAndPop : Prop :=
  (∀ (p : BitVec 2) (lo hi : Byte) (s : State),
    exec (baseInstr (byteXPQZ 3 p 0 5) lo hi) s = .next ((pushed s (s.stackReg (StackReg.ofCode p))).report .ok 16)) ∧
  (∀ (p : BitVec 2) (lo hi : Byte) (s : State), p ≠ 3 →
    exec (baseInstr (byteXPQZ 3 p 0 1) lo hi) s =
      .next (((popped s).2.setReg16 (Reg16.ofCode p) (popped s).1).report .ok 12)) ∧
  (∀ (lo hi : Byte) (s : State),
    exec (baseInstr 0xF1 lo hi) s =
      .next ({ (popped s).2 with
        a := BitVec.ofNat 8 ((popped s).1.toNat / 256)
        f := { z := (popped s).1.getLsbD 7, n := (popped s).1.getLsbD 6
               h := (popped s).1.getLsbD 5, c := (popped s).1.getLsbD 4 } }.report .ok 12))

/-! ### 8-bit arithmetic and logic -/

/-- R251, R252: ADD and ADC, every form. The spec marks the place of the carry in ADC as general knowledge (log entry 20).
The opcode bytes and the cycle counts (R497) are general knowledge (log entry 20). -/
def Obligations.AddWithCarry : Prop :=
  (∀ (s : State) (i : Instr) (v : Byte) (s1 : State) (n : Nat), AluForm 0 s i v s1 n →
    exec i s = .next ({ s1 with
      a := BitVec.ofNat 8 (s.a.toNat + v.toNat)
      f := { z := decide ((s.a.toNat + v.toNat) % 256 = 0)
             n := false
             h := decide (s.a.toNat % 16 + v.toNat % 16 > 15)
             c := decide (s.a.toNat + v.toNat > 255) } }.report .ok n)) ∧
  (∀ (s : State) (i : Instr) (v : Byte) (s1 : State) (n : Nat), AluForm 1 s i v s1 n →
    exec i s = .next ({ s1 with
      a := BitVec.ofNat 8 (s.a.toNat + v.toNat + s.f.c.toNat)
      f := { z := decide ((s.a.toNat + v.toNat + s.f.c.toNat) % 256 = 0)
             n := false
             h := decide (s.a.toNat % 16 + v.toNat % 16 + s.f.c.toNat > 15)
             c := decide (s.a.toNat + v.toNat + s.f.c.toNat > 255) } }.report .ok n))

/-- R253, R254, R258: SUB, SBC and CP, every form; CP writes the flags of SUB and leaves A. The spec marks the borrows of
SUB and SBC as general knowledge (log entry 20). The opcode bytes and the cycle counts (R497) are general knowledge (log
entry 20). -/
def Obligations.SubtractAndCompare : Prop :=
  (∀ (s : State) (i : Instr) (v : Byte) (s1 : State) (n : Nat), AluForm 2 s i v s1 n →
    exec i s = .next ({ s1 with
      a := BitVec.ofInt 8 (s.a.toNat - v.toNat)
      f := { z := decide (s.a = v)
             n := true
             h := decide (s.a.toNat % 16 < v.toNat % 16)
             c := decide (s.a.toNat < v.toNat) } }.report .ok n)) ∧
  (∀ (s : State) (i : Instr) (v : Byte) (s1 : State) (n : Nat), AluForm 3 s i v s1 n →
    exec i s = .next ({ s1 with
      a := BitVec.ofInt 8 (s.a.toNat - v.toNat - s.f.c.toNat)
      f := { z := decide ((s.a.toNat + 512 - v.toNat - s.f.c.toNat) % 256 = 0)
             n := true
             h := decide (s.a.toNat % 16 < v.toNat % 16 + s.f.c.toNat)
             c := decide (s.a.toNat < v.toNat + s.f.c.toNat) } }.report .ok n)) ∧
  (∀ (s : State) (i : Instr) (v : Byte) (s1 : State) (n : Nat), AluForm 7 s i v s1 n →
    exec i s = .next ({ s1 with
      f := { z := decide (s.a = v)
             n := true
             h := decide (s.a.toNat % 16 < v.toNat % 16)
             c := decide (s.a.toNat < v.toNat) } }.report .ok n))

/-- R255 to R257: AND, XOR and OR, every form, bit by bit. The spec marks H and C as general knowledge and decision D7
(log entry 20). The opcode bytes and the cycle counts (R497) are general knowledge (log entry 20). -/
def Obligations.LogicOperations : Prop :=
  ∀ (s : State) (i : Instr) (v : Byte) (s1 : State) (n : Nat),
    (AluForm 4 s i v s1 n → ∃ w : Byte, (∀ k < 8, w.getLsbD k = (s.a.getLsbD k && v.getLsbD k)) ∧
      exec i s = .next ({ s1 with
        a := w, f := { z := decide (w = 0), n := false, h := true, c := false } }.report .ok n)) ∧
    (AluForm 5 s i v s1 n → ∃ w : Byte, (∀ k < 8, w.getLsbD k = Bool.xor (s.a.getLsbD k) (v.getLsbD k)) ∧
      exec i s = .next ({ s1 with
        a := w, f := { z := decide (w = 0), n := false, h := false, c := false } }.report .ok n)) ∧
    (AluForm 6 s i v s1 n → ∃ w : Byte, (∀ k < 8, w.getLsbD k = (s.a.getLsbD k || v.getLsbD k)) ∧
      exec i s = .next ({ s1 with
        a := w, f := { z := decide (w = 0), n := false, h := false, c := false } }.report .ok n))

/-- R259 to R262: INC and DEC of a register and of (HL); C is kept. The spec marks the flags as decision D6 (log entry
20). The opcode bytes and the cycle counts (R497) are general knowledge (log entry 20). That (HL) is read before it is
written is decision D25. -/
def Obligations.IncrementDecrement : Prop :=
  ∀ (s s1 : State) (y : BitVec 3) (v : Byte) (put : Byte → State) (n : Nat) (lo hi : Byte),
    ModifyForm 4 12 s y v s1 put n →
    exec (baseInstr (byteXYZ 0 y 4) lo hi) s =
      .next ({ put (BitVec.ofNat 8 (v.toNat + 1)) with
        f := { z := decide (v = 0xFF), n := false, h := decide (v.toNat % 16 = 15), c := s.f.c } }.report .ok n) ∧
    exec (baseInstr (byteXYZ 0 y 5) lo hi) s =
      .next ({ put (BitVec.ofNat 8 (v.toNat + 255)) with
        f := { z := decide (v = 0x01), n := true, h := decide (v.toNat % 16 = 0), c := s.f.c } }.report .ok n)

/-- R263: DAA. Both conditions test the original A; H is always cleared. The cycle count (R497) is general knowledge (log
entry 20). -/
def Obligations.DecimalAdjust : Prop :=
  ∀ s : State,
    let low := s.f.h = true ∨ (s.f.n = false ∧ s.a.toNat % 16 > 9)
    let high := s.f.c = true ∨ (s.f.n = false ∧ s.a.toNat > 0x99)
    let corr := (if low then 0x06 else 0) + (if high then 0x60 else 0)
    let r := if s.f.n then (s.a.toNat + 256 - corr) % 256 else (s.a.toNat + corr) % 256
    exec .daa s = .next ({ s with
      a := BitVec.ofNat 8 r
      f := { z := decide (r = 0), n := s.f.n, h := false, c := decide (corr ≥ 0x60) } }.report .ok 4)

/-- DAA makes the accumulator represent valid packed-decimal digits (the glossary of 00_scope.md): after ADD of two
packed-decimal bytes it is their decimal sum, after SUB their decimal difference, with the decimal carry or borrow in C.
The spec marks the borrows of SUB as general knowledge (log entry 20). -/
def Obligations.DecimalArithmetic : Prop :=
  ∀ (s : State) (x y : Nat), x < 100 → y < 100 → s.a = bcd x →
    (∃ t u, exec (.add_a_n8 (bcd y)) s = .next t ∧ exec .daa t = .next u ∧
      u.a = bcd ((x + y) % 100) ∧ u.f.c = decide (100 ≤ x + y)) ∧
    (∃ t u, exec (.sub_a_n8 (bcd y)) s = .next t ∧ exec .daa t = .next u ∧
      u.a = bcd ((x + 100 - y) % 100) ∧ u.f.c = decide (x < y))

/-- R264 to R266: CPL, SCF and CCF. The spec marks the flags as general knowledge and decision D6 (log entry 20). The
cycle counts (R497) are general knowledge (log entry 20). -/
def Obligations.ComplementAndCarry : Prop :=
  ∀ s : State,
    exec .cpl s = .next ({ s with
      a := BitVec.ofNat 8 (255 - s.a.toNat), f := { s.f with n := true, h := true } }.report .ok 4) ∧
    exec .scf s = .next ({ s with f := { z := s.f.z, n := false, h := false, c := true } }.report .ok 4) ∧
    exec .ccf s = .next ({ s with f := { z := s.f.z, n := false, h := false, c := !s.f.c } }.report .ok 4)

/-! ### 16-bit arithmetic -/

/-- R32: increment, decrement and the 16-bit add of a pair wrap modulo 65536 and never signal an error: on the register
file for every pair, and as the instructions on pairs do them. -/
def Obligations.PairWrap : Prop :=
  (∀ (s : State) (r : Reg16) (v : Word),
    ((s.setReg16 r (s.reg16 r + 1)).reg16 r).toNat = ((s.reg16 r).toNat + 1) % 65536 ∧
    ((s.setReg16 r (s.reg16 r - 1)).reg16 r).toNat = ((s.reg16 r).toNat + 65535) % 65536 ∧
    ((s.setReg16 r (s.reg16 r + v)).reg16 r).toNat = ((s.reg16 r).toNat + v.toNat) % 65536) ∧
  (∀ s : State,
    (∃ t, exec .inc_bc s = .next t ∧ t.bc.toNat = (s.bc.toNat + 1) % 65536) ∧
    (∃ t, exec .inc_de s = .next t ∧ t.de.toNat = (s.de.toNat + 1) % 65536) ∧
    (∃ t, exec .inc_hl s = .next t ∧ t.hl.toNat = (s.hl.toNat + 1) % 65536) ∧
    (∃ t, exec .dec_bc s = .next t ∧ t.bc.toNat = (s.bc.toNat + 65535) % 65536) ∧
    (∃ t, exec .dec_de s = .next t ∧ t.de.toNat = (s.de.toNat + 65535) % 65536) ∧
    (∃ t, exec .dec_hl s = .next t ∧ t.hl.toNat = (s.hl.toNat + 65535) % 65536) ∧
    (∃ t, exec .add_hl_bc s = .next t ∧ t.hl.toNat = (s.hl.toNat + s.bc.toNat) % 65536) ∧
    (∃ t, exec .add_hl_de s = .next t ∧ t.hl.toNat = (s.hl.toNat + s.de.toNat) % 65536) ∧
    (∃ t, exec .add_hl_hl s = .next t ∧ t.hl.toNat = (s.hl.toNat + s.hl.toNat) % 65536) ∧
    (∃ t, exec .add_hl_sp s = .next t ∧ t.hl.toNat = (s.hl.toNat + s.sp.toNat) % 65536))

/-- R301 to R303: INC rr and DEC rr write no flag; ADD HL,rr keeps Z and takes H and C from bits 11 and 15. The spec marks
the flags as general knowledge and decision D6 (log entry 20). The opcode bytes and the cycle counts (R497) are general
knowledge (log entry 20). -/
def Obligations.PairArithmetic : Prop :=
  ∀ (p : BitVec 2) (lo hi : Byte) (s : State),
    let r := Reg16.ofCode p
    exec (baseInstr (byteXPQZ 0 p 0 3) lo hi) s =
      .next ((s.setReg16 r (BitVec.ofNat 16 ((s.reg16 r).toNat + 1))).report .ok 8) ∧
    exec (baseInstr (byteXPQZ 0 p 1 3) lo hi) s =
      .next ((s.setReg16 r (BitVec.ofNat 16 ((s.reg16 r).toNat + 65535))).report .ok 8) ∧
    exec (baseInstr (byteXPQZ 0 p 1 1) lo hi) s =
      .next ({ s.setHL (BitVec.ofNat 16 (s.hl.toNat + (s.reg16 r).toNat)) with
        f := { z := s.f.z
               n := false
               h := decide (s.hl.toNat % 4096 + (s.reg16 r).toNat % 4096 > 4095)
               c := decide (s.hl.toNat + (s.reg16 r).toNat > 65535) } }.report .ok 8)

/-- R300, R304, R222: ADD SP,e8 and LD HL,SP+e8. The offset is signed; the flags are those of the unsigned low-byte
addition. The spec marks the flags as general knowledge and decision D8 (log entry 20). The opcode bytes and the cycle
counts (R497) are general knowledge (log entry 20). -/
def Obligations.StackPointerOffset : Prop :=
  ∀ (e hi : Byte) (s : State),
    let sum := BitVec.ofInt 16 (s.sp.toNat + e.toInt)
    let f : Flags := { z := false
                       n := false
                       h := decide (s.sp.toNat % 16 + e.toNat % 16 > 15)
                       c := decide (s.sp.toNat % 256 + e.toNat > 255) }
    exec (baseInstr 0xE8 e hi) s = .next ({ s with sp := sum, f := f }.report .ok 16) ∧
    exec (baseInstr 0xF8 e hi) s = .next ({ s.setHL sum with f := f }.report .ok 12)

/-! ### Rotates, shifts, bits -/

/-- R330 to R333: the accumulator rotates clear Z, whatever the result. The spec marks the opcodes, directions and flag
effects of all four as general knowledge and decision D6 (log entry 20). The opcode bytes and the cycle counts (R497) are
general knowledge (log entry 20). -/
def Obligations.AccumulatorRotates : Prop :=
  ∀ (k : BitVec 2) (lo hi : Byte) (s : State),
    let out := shiftArith (cc0 k) s.a.toNat s.f.c.toNat
    exec (baseInstr (byteXYZ 0 (cc0 k) 7) lo hi) s =
      .next ({ s with
        a := BitVec.ofNat 8 out.1
        f := { z := false, n := false, h := false, c := decide (out.2 = 1) } }.report .ok 4)

/-- R334 to R342: the eight prefixed rotates and shifts on every operand. The spec marks Z, N and H of the four rotates
(RLC, RRC, RL, RR), bit 7 of SRA, and Z, N and H of SWAP as general knowledge and decision D6 (log entry 20). The opcode
bytes and the cycle counts (R497) are general knowledge (log entry 20). That (HL) is read before it is written is decision
D25. -/
def Obligations.PrefixedShifts : Prop :=
  ∀ (s s1 : State) (y z : BitVec 3) (v : Byte) (put : Byte → State) (n : Nat), ModifyForm 8 16 s z v s1 put n →
    let out := shiftArith y v.toNat s.f.c.toNat
    exec (prefixedInstr (byteXYZ 0 y z)) s =
      .next ({ put (BitVec.ofNat 8 out.1) with
        f := { z := decide (out.1 = 0), n := false, h := false, c := decide (out.2 = 1) } }.report .ok n)

/-- SWAP is self-inverse on every register, for all byte values (R341). The spec marks the byte placement of SWAP in the
prefixed map and the codes of the registers as general knowledge (G11, decision D4), by which the statement names the
instruction; the exchange of the nibbles itself is the source's, and the marked flags of R341 are no part of the statement
(log entry 20). -/
def Obligations.SwapTwice : Prop :=
  ∀ (z : BitVec 3) (r : Reg8) (s : State), Operand8.ofCode z = .reg r →
    ∃ t u, exec (prefixedInstr (byteXYZ 0 6 z)) s = .next t ∧ exec (prefixedInstr (byteXYZ 0 6 z)) t = .next u ∧
      u.reg8 r = s.reg8 r ∧ (t.reg8 r).toNat = (s.reg8 r).toNat % 16 * 16 + (s.reg8 r).toNat / 16

/-- R343: BIT reads and writes only Z, N and H. The spec marks the polarity of Z as general knowledge and decision D6 (log
entry 20). The opcode bytes and the cycle counts (R497) are general knowledge (log entry 20). -/
def Obligations.BitTest : Prop :=
  ∀ (s s1 : State) (u z : BitVec 3) (v : Byte) (put : Byte → State) (n : Nat), ModifyForm 8 12 s z v s1 put n →
    exec (prefixedInstr (byteXYZ 1 u z)) s =
      .next ({ s1 with f := { z := !v.getLsbD u.toNat, n := false, h := true, c := s.f.c } }.report .ok n)

/-- R344, R345: RES and SET change exactly one bit of the operand and touch no flag. The opcode bytes and the cycle counts
(R497) are general knowledge (log entry 20). That (HL) is read before it is written is decision D25. -/
def Obligations.BitClearAndSet : Prop :=
  ∀ (s s1 : State) (u z : BitVec 3) (v : Byte) (put : Byte → State) (n : Nat), ModifyForm 8 16 s z v s1 put n →
    (∃ w : Byte, (∀ k < 8, w.getLsbD k = if k = u.toNat then false else v.getLsbD k) ∧
      exec (prefixedInstr (byteXYZ 2 u z)) s = .next ((put w).report .ok n)) ∧
    (∃ w : Byte, (∀ k < 8, w.getLsbD k = if k = u.toNat then true else v.getLsbD k) ∧
      exec (prefixedInstr (byteXYZ 3 u z)) s = .next ((put w).report .ok n))

/-! ### Control transfer -/

/-- R381 to R385: the jumps. JP HL takes HL itself; the base of a relative jump is the PC after the displacement. The spec
marks R382 and R384 as decisions D10 and D9 (log entry 20). The opcode bytes and the cycle counts (R497) are general
knowledge (log entry 20). -/
def Obligations.Jumps : Prop :=
  ∀ (k : BitVec 2) (lo hi : Byte) (s : State),
    exec (baseInstr 0xC3 lo hi) s = .next ({ s with pc := concat hi lo }.report .ok 16) ∧
    exec (baseInstr (byteXYZ 3 (cc0 k) 2) lo hi) s =
      .next (if holds k s.f then { s with pc := concat hi lo }.report .ok 16 else s.report .ok 12) ∧
    exec (baseInstr 0xE9 lo hi) s = .next ({ s with pc := s.hl }.report .ok 4) ∧
    exec (baseInstr 0x18 lo hi) s = .next ({ s with pc := BitVec.ofInt 16 (s.pc.toNat + lo.toInt) }.report .ok 12) ∧
    exec (baseInstr (byteXYZ 0 (cc1 k) 0) lo hi) s =
      .next (if holds k s.f then { s with pc := BitVec.ofInt 16 (s.pc.toNat + lo.toInt) }.report .ok 12
        else s.report .ok 8)

/-- R386 to R388: the calls push the address after the instruction, high byte to SP-1, low byte to SP-2; a call that is
not taken pushes nothing; RST goes to 8*y. The spec marks CALL cc as decision D10 and the vector of RST as general
knowledge (log entry 20). The opcode bytes and the cycle counts (R497) are general knowledge (log entry 20). -/
def Obligations.Calls : Prop :=
  ∀ (k : BitVec 2) (y : BitVec 3) (lo hi : Byte) (s : State),
    exec (baseInstr 0xCD lo hi) s = .next ({ pushed s s.pc with pc := concat hi lo }.report .ok 24) ∧
    exec (baseInstr (byteXYZ 3 (cc0 k) 4) lo hi) s =
      .next (if holds k s.f then { pushed s s.pc with pc := concat hi lo }.report .ok 24 else s.report .ok 12) ∧
    exec (baseInstr (byteXYZ 3 y 7) lo hi) s =
      .next ({ pushed s s.pc with pc := BitVec.ofNat 16 (8 * y.toNat) }.report .ok 16)

/-- R389 to R391: the returns; one that is not taken reads nothing; RETI also sets IME. The spec marks RET cc and RETI as
decisions D10 and D19 (log entry 20). The opcode bytes and the cycle counts (R497) are general knowledge (log entry 20).
-/
def Obligations.Returns : Prop :=
  ∀ (k : BitVec 2) (lo hi : Byte) (s : State),
    exec (baseInstr 0xC9 lo hi) s = .next ({ (popped s).2 with pc := (popped s).1 }.report .ok 16) ∧
    exec (baseInstr (byteXYZ 3 (cc0 k) 0) lo hi) s =
      .next (if holds k s.f then { (popped s).2 with pc := (popped s).1 }.report .ok 20 else s.report .ok 8) ∧
    exec (baseInstr 0xD9 lo hi) s = .next ({ (popped s).2 with pc := (popped s).1, ime := true }.report .ok 16)

/-- A CALL followed at its target by a RET comes back: PC is the address after the call and SP what it was, where the
stack is in ROM under STORE. The spec marks the wrap of the second address as decision D12 and the write policy as
decision D13 (log entry 20). -/
def Obligations.CallThenReturn : Prop :=
  ∀ (s : State) (n : Word), Memory.wf s.rom = true → s.romWritePolicy = .store →
    isRom (s.sp - 1) = true → isRom (s.sp - 2) = true →
    ∃ t u, exec (.call_n16 n) s = .next t ∧ t.pc = n ∧ exec .ret t = .next u ∧ u.pc = s.pc ∧ u.sp = s.sp ∧
      u.a = s.a ∧ u.f = s.f ∧ u.bc = s.bc ∧ u.de = s.de ∧ u.hl = s.hl ∧ u.ime = s.ime

/-! ### System instructions -/

/-- R420 to R424: NOP, HALT, STOP, DI and EI; STOP's second byte, where it has one, is ignored. The spec marks HALT, STOP
and EI as decisions D17, D18 and D19 (log entry 20). The opcode bytes and the cycle counts (R497) are general knowledge
(log entry 20). That 0x76 is HALT and that STOP's second byte is ignored is decision D32 as well (log entry 20). -/
def Obligations.SystemInstructions : Prop :=
  (∀ (lo hi : Byte) (s : State),
    exec (baseInstr 0x00 lo hi) s = .next (s.report .ok 4) ∧
    exec (baseInstr 0x76 lo hi) s = .next ({ s with halted := true }.report .ok 4) ∧
    exec (baseInstr 0x10 lo hi) s = .next ({ s with stopped := true }.report .ok 4) ∧
    exec (baseInstr 0xF3 lo hi) s = .next ({ s with ime := false }.report .ok 4) ∧
    exec (baseInstr 0xFB lo hi) s = .next ({ s with ime := true }.report .ok 4)) ∧
  (∀ (b : Byte) (rest : List Byte),
    decode .two (0x10 :: b :: rest) = .ok (.stop, rest) ∧ decode .one (0x10 :: rest) = .ok (.stop, rest))
end

