-- ==== Sys2Proof/Laws/Memory.lean ====
section
/-! SUPPORT. The laws of the ROM list: a read after a write, the canonical form and the range of the offsets are kept, and
the list of an image reads as the image. -/

namespace Sys2Proof.Laws

open Sys2Proof.Machine

/-- Below its first offset a canonical list names nothing. -/
theorem read_below (cells : List Host.Cell) (k low : Nat) (hk : k < low) (h : Memory.wfFrom low cells = true) :
    Memory.read cells k = Memory.unlisted k := by
  induction cells generalizing low with
  | nil => rfl
  | cons cell rest ih =>
    obtain ⟨i, x⟩ := cell
    simp only [Memory.wfFrom, Bool.and_eq_true, decide_eq_true_eq] at h
    have hi : i ≠ k := by omega
    simp [Memory.read, hi, ih (i + 1) (by omega) h.2]

/-- A write is seen at its own offset. -/
theorem read_write_same (cells : List Host.Cell) (k : Nat) (v : Byte) (low : Nat) (h : Memory.wfFrom low cells = true) :
    Memory.read (Memory.write cells k v) k = v := by
  induction cells generalizing low with
  | nil =>
    by_cases hv : v = Memory.unlisted k <;> simp [Memory.write, Memory.read, hv]
  | cons cell rest ih =>
    obtain ⟨i, x⟩ := cell
    simp only [Memory.wfFrom, Bool.and_eq_true, decide_eq_true_eq] at h
    obtain ⟨⟨-, -⟩, hrest⟩ := h
    rcases Nat.lt_trichotomy k i with hk | rfl | hk
    · by_cases hv : v = Memory.unlisted k
      · simp [Memory.write, hk, hv, Memory.read, Nat.ne_of_gt hk, read_below rest k (i + 1) (by omega) hrest]
      · simp [Memory.write, hk, hv, Memory.read]
    · by_cases hv : v = Memory.unlisted k
      · simp [Memory.write, hv, read_below rest k (k + 1) (by omega) hrest]
      · simp [Memory.write, hv, Memory.read]
    · simp [Memory.write, Nat.not_lt.mpr (Nat.le_of_lt hk), Nat.ne_of_gt hk, Memory.read, Nat.ne_of_lt hk,
        ih (i + 1) hrest]

/-- A write leaves every other offset alone. -/
theorem read_write_other (cells : List Host.Cell) (k j : Nat) (v : Byte) (hj : j ≠ k) :
    Memory.read (Memory.write cells k v) j = Memory.read cells j := by
  induction cells with
  | nil =>
    by_cases hv : v = Memory.unlisted k <;> simp [Memory.write, Memory.read, hv, hj.symm]
  | cons cell rest ih =>
    obtain ⟨i, x⟩ := cell
    rcases Nat.lt_trichotomy k i with hk | rfl | hk
    · by_cases hv : v = Memory.unlisted k <;> simp [Memory.write, hk, hv, Memory.read, hj.symm]
    · by_cases hv : v = Memory.unlisted k <;> simp [Memory.write, hv, Memory.read, hj.symm]
    · simp [Memory.write, Nat.not_lt.mpr (Nat.le_of_lt hk), Nat.ne_of_gt hk, Memory.read, ih]

/-- A canonical list from a bound is one from every lower bound. -/
theorem wfFrom_mono {low low' : Nat} (hl : low' ≤ low) (cells : List Host.Cell) (h : Memory.wfFrom low cells = true) :
    Memory.wfFrom low' cells = true := by
  cases cells with
  | nil => rfl
  | cons cell rest =>
    obtain ⟨i, x⟩ := cell
    simp only [Memory.wfFrom, Bool.and_eq_true, decide_eq_true_eq] at h ⊢
    exact ⟨⟨Nat.le_trans hl h.1.1, h.1.2⟩, h.2⟩

/-- A write keeps the canonical form. -/
theorem wfFrom_write (cells : List Host.Cell) (k : Nat) (v : Byte) (low : Nat) (hlow : low ≤ k)
    (h : Memory.wfFrom low cells = true) : Memory.wfFrom low (Memory.write cells k v) = true := by
  induction cells generalizing low with
  | nil =>
    by_cases hv : v = Memory.unlisted k <;> simp [Memory.write, Memory.wfFrom, hv, hlow]
  | cons cell rest ih =>
    obtain ⟨i, x⟩ := cell
    simp only [Memory.wfFrom, Bool.and_eq_true, decide_eq_true_eq] at h
    rcases Nat.lt_trichotomy k i with hk | rfl | hk
    · have hki : k + 1 ≤ i := hk
      by_cases hv : v = Memory.unlisted k <;> simp [Memory.write, hk, hv, Memory.wfFrom, h, hlow, hki]
    · by_cases hv : v = Memory.unlisted k
      · simp [Memory.write, hv, wfFrom_mono (Nat.le_succ_of_le h.1.1) rest h.2]
      · simp [Memory.write, hv, Memory.wfFrom, h]
    · simp [Memory.write, Nat.not_lt.mpr (Nat.le_of_lt hk), Nat.ne_of_gt hk, Memory.wfFrom, h,
        ih (i + 1) hk h.2]

/-- A write keeps the canonical form. -/
theorem wf_write (cells : List Host.Cell) (k : Nat) (v : Byte) (h : Memory.wf cells = true) :
    Memory.wf (Memory.write cells k v) = true :=
  wfFrom_write cells k v 0 (Nat.zero_le k) h

/-- A write names no offset but its own and those that were named. -/
theorem mem_write (cells : List Host.Cell) (k : Nat) (v : Byte) (cell : Host.Cell)
    (h : cell ∈ Memory.write cells k v) : cell = (k, v) ∨ cell ∈ cells := by
  induction cells with
  | nil =>
    by_cases hv : v = Memory.unlisted k
    · simp [Memory.write, hv] at h
    · simpa [Memory.write, hv] using h
  | cons head rest ih =>
    obtain ⟨i, x⟩ := head
    simp only [Memory.write] at h
    split at h
    · split at h
      · exact .inr h
      · simpa using h
    · split at h
      · split at h
        · exact .inr (List.mem_cons_of_mem _ h)
        · rcases List.mem_cons.mp h with h | h
          · exact .inl h
          · exact .inr (List.mem_cons_of_mem _ h)
      · rcases List.mem_cons.mp h with h | h
        · exact .inr (h ▸ List.mem_cons_self)
        · exact (ih h).imp_right (List.mem_cons_of_mem _)

/-- The list of an image is canonical. -/
theorem wfFrom_imageCells (image : List Byte) (i : Nat) : Memory.wfFrom i (imageCells i image) = true := by
  induction image generalizing i with
  | nil => rfl
  | cons v rest ih =>
    by_cases hv : v = Memory.unlisted i
    · simp [imageCells, hv, wfFrom_mono (Nat.le_succ i) _ (ih (i + 1))]
    · simp [imageCells, hv, Memory.wfFrom, ih]

/-- The list of an image names only offsets of the image. -/
theorem imageCells_range (image : List Byte) (i : Nat) (cell : Host.Cell) (h : cell ∈ imageCells i image) :
    i ≤ cell.1 ∧ cell.1 < i + image.length := by
  induction image generalizing i with
  | nil => cases h
  | cons v rest ih =>
    simp only [imageCells] at h
    split at h
    · have := ih (i + 1) h
      simp only [List.length_cons]
      omega
    · rcases List.mem_cons.mp h with rfl | h
      · simp
      · have := ih (i + 1) h
        simp only [List.length_cons]
        omega

/-- The list of an image reads as the image. -/
theorem read_imageCells (image : List Byte) (i k : Nat) (h : k < image.length) :
    Memory.read (imageCells i image) (i + k) = image.getD k 0 := by
  induction image generalizing i k with
  | nil => cases h
  | cons v rest ih =>
    cases k with
    | zero =>
      by_cases hv : v = Memory.unlisted i
      · have := read_below (imageCells (i + 1) rest) i (i + 1) (Nat.lt_succ_self i)
          (wfFrom_imageCells rest (i + 1))
        simp [imageCells, hv, this]
      · simp [imageCells, hv, Memory.read]
    | succ k =>
      have hk := ih (i + 1) k (by simpa using h)
      have e : i + (k + 1) = i + 1 + k := by omega
      rw [e]
      have hne : i ≠ i + 1 + k := by omega
      by_cases hv : v = Memory.unlisted i
      · simpa [imageCells, hv] using hk
      · simpa [imageCells, hv, Memory.read, hne] using hk

end Sys2Proof.Laws
end

