-- ==== Sys2Proof/Laws/State.lean ====
section
/-! SUPPORT. The fields of State under the named operations: for each operation, one lemma per field that it leaves alone,
and one per field that it sets outright. -/

namespace Sys2Proof.Machine

/-! ### `report` -/

@[simp] theorem State.report_a (s : State) (st : Status) (n : Nat) : (s.report st n).a = s.a := rfl
@[simp] theorem State.report_b (s : State) (st : Status) (n : Nat) : (s.report st n).b = s.b := rfl
@[simp] theorem State.report_c (s : State) (st : Status) (n : Nat) : (s.report st n).c = s.c := rfl
@[simp] theorem State.report_d (s : State) (st : Status) (n : Nat) : (s.report st n).d = s.d := rfl
@[simp] theorem State.report_e (s : State) (st : Status) (n : Nat) : (s.report st n).e = s.e := rfl
@[simp] theorem State.report_h (s : State) (st : Status) (n : Nat) : (s.report st n).h = s.h := rfl
@[simp] theorem State.report_l (s : State) (st : Status) (n : Nat) : (s.report st n).l = s.l := rfl
@[simp] theorem State.report_f (s : State) (st : Status) (n : Nat) : (s.report st n).f = s.f := rfl
@[simp] theorem State.report_sp (s : State) (st : Status) (n : Nat) : (s.report st n).sp = s.sp := rfl
@[simp] theorem State.report_pc (s : State) (st : Status) (n : Nat) : (s.report st n).pc = s.pc := rfl
@[simp] theorem State.report_ime (s : State) (st : Status) (n : Nat) : (s.report st n).ime = s.ime := rfl
@[simp] theorem State.report_halted (s : State) (st : Status) (n : Nat) : (s.report st n).halted = s.halted := rfl
@[simp] theorem State.report_stopped (s : State) (st : Status) (n : Nat) : (s.report st n).stopped = s.stopped := rfl
@[simp] theorem State.report_fault (s : State) (st : Status) (n : Nat) : (s.report st n).fault = s.fault := rfl
@[simp] theorem State.report_rom (s : State) (st : Status) (n : Nat) : (s.report st n).rom = s.rom := rfl
@[simp] theorem State.report_bankCount (s : State) (st : Status) (n : Nat) : (s.report st n).bankCount = s.bankCount := rfl
@[simp] theorem State.report_currentIndex (s : State) (st : Status) (n : Nat) : (s.report st n).currentIndex = s.currentIndex := rfl
@[simp] theorem State.report_romWritePolicy (s : State) (st : Status) (n : Nat) : (s.report st n).romWritePolicy = s.romWritePolicy := rfl
@[simp] theorem State.report_stopLength (s : State) (st : Status) (n : Nat) : (s.report st n).stopLength = s.stopLength := rfl
@[simp] theorem State.report_bus (s : State) (st : Status) (n : Nat) : (s.report st n).bus = s.bus := rfl
@[simp] theorem State.report_extIn (s : State) (st : Status) (n : Nat) : (s.report st n).extIn = s.extIn := rfl
@[simp] theorem State.report_wakeIn (s : State) (st : Status) (n : Nat) : (s.report st n).wakeIn = s.wakeIn := rfl
@[simp] theorem State.report_status_set (s : State) (st : Status) (n : Nat) : (s.report st n).status = st := rfl
@[simp] theorem State.report_cycles_set (s : State) (st : Status) (n : Nat) : (s.report st n).cycles = n := rfl

/-! ### `raiseIllegalOpcode` -/

@[simp] theorem State.raiseIllegalOpcode_a (s : State) (op : Byte) : (s.raiseIllegalOpcode op).a = s.a := rfl
@[simp] theorem State.raiseIllegalOpcode_b (s : State) (op : Byte) : (s.raiseIllegalOpcode op).b = s.b := rfl
@[simp] theorem State.raiseIllegalOpcode_c (s : State) (op : Byte) : (s.raiseIllegalOpcode op).c = s.c := rfl
@[simp] theorem State.raiseIllegalOpcode_d (s : State) (op : Byte) : (s.raiseIllegalOpcode op).d = s.d := rfl
@[simp] theorem State.raiseIllegalOpcode_e (s : State) (op : Byte) : (s.raiseIllegalOpcode op).e = s.e := rfl
@[simp] theorem State.raiseIllegalOpcode_h (s : State) (op : Byte) : (s.raiseIllegalOpcode op).h = s.h := rfl
@[simp] theorem State.raiseIllegalOpcode_l (s : State) (op : Byte) : (s.raiseIllegalOpcode op).l = s.l := rfl
@[simp] theorem State.raiseIllegalOpcode_f (s : State) (op : Byte) : (s.raiseIllegalOpcode op).f = s.f := rfl
@[simp] theorem State.raiseIllegalOpcode_sp (s : State) (op : Byte) : (s.raiseIllegalOpcode op).sp = s.sp := rfl
@[simp] theorem State.raiseIllegalOpcode_pc (s : State) (op : Byte) : (s.raiseIllegalOpcode op).pc = s.pc := rfl
@[simp] theorem State.raiseIllegalOpcode_ime (s : State) (op : Byte) : (s.raiseIllegalOpcode op).ime = s.ime := rfl
@[simp] theorem State.raiseIllegalOpcode_halted (s : State) (op : Byte) : (s.raiseIllegalOpcode op).halted = s.halted := rfl
@[simp] theorem State.raiseIllegalOpcode_stopped (s : State) (op : Byte) : (s.raiseIllegalOpcode op).stopped = s.stopped := rfl
@[simp] theorem State.raiseIllegalOpcode_rom (s : State) (op : Byte) : (s.raiseIllegalOpcode op).rom = s.rom := rfl
@[simp] theorem State.raiseIllegalOpcode_bankCount (s : State) (op : Byte) : (s.raiseIllegalOpcode op).bankCount = s.bankCount := rfl
@[simp] theorem State.raiseIllegalOpcode_currentIndex (s : State) (op : Byte) : (s.raiseIllegalOpcode op).currentIndex = s.currentIndex := rfl
@[simp] theorem State.raiseIllegalOpcode_romWritePolicy (s : State) (op : Byte) : (s.raiseIllegalOpcode op).romWritePolicy = s.romWritePolicy := rfl
@[simp] theorem State.raiseIllegalOpcode_stopLength (s : State) (op : Byte) : (s.raiseIllegalOpcode op).stopLength = s.stopLength := rfl
@[simp] theorem State.raiseIllegalOpcode_bus (s : State) (op : Byte) : (s.raiseIllegalOpcode op).bus = s.bus := rfl
@[simp] theorem State.raiseIllegalOpcode_extIn (s : State) (op : Byte) : (s.raiseIllegalOpcode op).extIn = s.extIn := rfl
@[simp] theorem State.raiseIllegalOpcode_wakeIn (s : State) (op : Byte) : (s.raiseIllegalOpcode op).wakeIn = s.wakeIn := rfl
@[simp] theorem State.raiseIllegalOpcode_fault_set (s : State) (op : Byte) : (s.raiseIllegalOpcode op).fault = some op := rfl
@[simp] theorem State.raiseIllegalOpcode_status_set (s : State) (op : Byte) : (s.raiseIllegalOpcode op).status = .illegal op := rfl
@[simp] theorem State.raiseIllegalOpcode_cycles_set (s : State) (op : Byte) : (s.raiseIllegalOpcode op).cycles = 0 := rfl

/-! ### `wake` -/

@[simp] theorem State.wake_a (s : State) : s.wake.a = s.a := rfl
@[simp] theorem State.wake_b (s : State) : s.wake.b = s.b := rfl
@[simp] theorem State.wake_c (s : State) : s.wake.c = s.c := rfl
@[simp] theorem State.wake_d (s : State) : s.wake.d = s.d := rfl
@[simp] theorem State.wake_e (s : State) : s.wake.e = s.e := rfl
@[simp] theorem State.wake_h (s : State) : s.wake.h = s.h := rfl
@[simp] theorem State.wake_l (s : State) : s.wake.l = s.l := rfl
@[simp] theorem State.wake_f (s : State) : s.wake.f = s.f := rfl
@[simp] theorem State.wake_sp (s : State) : s.wake.sp = s.sp := rfl
@[simp] theorem State.wake_pc (s : State) : s.wake.pc = s.pc := rfl
@[simp] theorem State.wake_ime (s : State) : s.wake.ime = s.ime := rfl
@[simp] theorem State.wake_fault (s : State) : s.wake.fault = s.fault := rfl
@[simp] theorem State.wake_rom (s : State) : s.wake.rom = s.rom := rfl
@[simp] theorem State.wake_bankCount (s : State) : s.wake.bankCount = s.bankCount := rfl
@[simp] theorem State.wake_currentIndex (s : State) : s.wake.currentIndex = s.currentIndex := rfl
@[simp] theorem State.wake_romWritePolicy (s : State) : s.wake.romWritePolicy = s.romWritePolicy := rfl
@[simp] theorem State.wake_stopLength (s : State) : s.wake.stopLength = s.stopLength := rfl
@[simp] theorem State.wake_status (s : State) : s.wake.status = s.status := rfl
@[simp] theorem State.wake_cycles (s : State) : s.wake.cycles = s.cycles := rfl
@[simp] theorem State.wake_bus (s : State) : s.wake.bus = s.bus := rfl
@[simp] theorem State.wake_extIn (s : State) : s.wake.extIn = s.extIn := rfl
@[simp] theorem State.wake_wakeIn (s : State) : s.wake.wakeIn = s.wakeIn := rfl
@[simp] theorem State.wake_halted_set (s : State) : s.wake.halted = false := rfl
@[simp] theorem State.wake_stopped_set (s : State) : s.wake.stopped = false := rfl

/-! ### `afterRead` -/

@[simp] theorem State.afterRead_a (s : State) (x : Word) : (s.afterRead x).a = s.a := rfl
@[simp] theorem State.afterRead_b (s : State) (x : Word) : (s.afterRead x).b = s.b := rfl
@[simp] theorem State.afterRead_c (s : State) (x : Word) : (s.afterRead x).c = s.c := rfl
@[simp] theorem State.afterRead_d (s : State) (x : Word) : (s.afterRead x).d = s.d := rfl
@[simp] theorem State.afterRead_e (s : State) (x : Word) : (s.afterRead x).e = s.e := rfl
@[simp] theorem State.afterRead_h (s : State) (x : Word) : (s.afterRead x).h = s.h := rfl
@[simp] theorem State.afterRead_l (s : State) (x : Word) : (s.afterRead x).l = s.l := rfl
@[simp] theorem State.afterRead_f (s : State) (x : Word) : (s.afterRead x).f = s.f := rfl
@[simp] theorem State.afterRead_sp (s : State) (x : Word) : (s.afterRead x).sp = s.sp := rfl
@[simp] theorem State.afterRead_pc (s : State) (x : Word) : (s.afterRead x).pc = s.pc := rfl
@[simp] theorem State.afterRead_ime (s : State) (x : Word) : (s.afterRead x).ime = s.ime := rfl
@[simp] theorem State.afterRead_halted (s : State) (x : Word) : (s.afterRead x).halted = s.halted := rfl
@[simp] theorem State.afterRead_stopped (s : State) (x : Word) : (s.afterRead x).stopped = s.stopped := rfl
@[simp] theorem State.afterRead_fault (s : State) (x : Word) : (s.afterRead x).fault = s.fault := rfl
@[simp] theorem State.afterRead_rom (s : State) (x : Word) : (s.afterRead x).rom = s.rom := rfl
@[simp] theorem State.afterRead_bankCount (s : State) (x : Word) : (s.afterRead x).bankCount = s.bankCount := rfl
@[simp] theorem State.afterRead_currentIndex (s : State) (x : Word) : (s.afterRead x).currentIndex = s.currentIndex := rfl
@[simp] theorem State.afterRead_romWritePolicy (s : State) (x : Word) : (s.afterRead x).romWritePolicy = s.romWritePolicy := rfl
@[simp] theorem State.afterRead_stopLength (s : State) (x : Word) : (s.afterRead x).stopLength = s.stopLength := rfl
@[simp] theorem State.afterRead_status (s : State) (x : Word) : (s.afterRead x).status = s.status := rfl
@[simp] theorem State.afterRead_cycles (s : State) (x : Word) : (s.afterRead x).cycles = s.cycles := rfl
@[simp] theorem State.afterRead_wakeIn (s : State) (x : Word) : (s.afterRead x).wakeIn = s.wakeIn := rfl

/-! ### `setBC` -/

@[simp] theorem State.setBC_a (s : State) (v : Word) : (s.setBC v).a = s.a := rfl
@[simp] theorem State.setBC_d (s : State) (v : Word) : (s.setBC v).d = s.d := rfl
@[simp] theorem State.setBC_e (s : State) (v : Word) : (s.setBC v).e = s.e := rfl
@[simp] theorem State.setBC_h (s : State) (v : Word) : (s.setBC v).h = s.h := rfl
@[simp] theorem State.setBC_l (s : State) (v : Word) : (s.setBC v).l = s.l := rfl
@[simp] theorem State.setBC_f (s : State) (v : Word) : (s.setBC v).f = s.f := rfl
@[simp] theorem State.setBC_sp (s : State) (v : Word) : (s.setBC v).sp = s.sp := rfl
@[simp] theorem State.setBC_pc (s : State) (v : Word) : (s.setBC v).pc = s.pc := rfl
@[simp] theorem State.setBC_ime (s : State) (v : Word) : (s.setBC v).ime = s.ime := rfl
@[simp] theorem State.setBC_halted (s : State) (v : Word) : (s.setBC v).halted = s.halted := rfl
@[simp] theorem State.setBC_stopped (s : State) (v : Word) : (s.setBC v).stopped = s.stopped := rfl
@[simp] theorem State.setBC_fault (s : State) (v : Word) : (s.setBC v).fault = s.fault := rfl
@[simp] theorem State.setBC_rom (s : State) (v : Word) : (s.setBC v).rom = s.rom := rfl
@[simp] theorem State.setBC_bankCount (s : State) (v : Word) : (s.setBC v).bankCount = s.bankCount := rfl
@[simp] theorem State.setBC_currentIndex (s : State) (v : Word) : (s.setBC v).currentIndex = s.currentIndex := rfl
@[simp] theorem State.setBC_romWritePolicy (s : State) (v : Word) : (s.setBC v).romWritePolicy = s.romWritePolicy := rfl
@[simp] theorem State.setBC_stopLength (s : State) (v : Word) : (s.setBC v).stopLength = s.stopLength := rfl
@[simp] theorem State.setBC_status (s : State) (v : Word) : (s.setBC v).status = s.status := rfl
@[simp] theorem State.setBC_cycles (s : State) (v : Word) : (s.setBC v).cycles = s.cycles := rfl
@[simp] theorem State.setBC_bus (s : State) (v : Word) : (s.setBC v).bus = s.bus := rfl
@[simp] theorem State.setBC_extIn (s : State) (v : Word) : (s.setBC v).extIn = s.extIn := rfl
@[simp] theorem State.setBC_wakeIn (s : State) (v : Word) : (s.setBC v).wakeIn = s.wakeIn := rfl
@[simp] theorem State.setBC_b_set (s : State) (v : Word) : (s.setBC v).b = hiByte v := rfl
@[simp] theorem State.setBC_c_set (s : State) (v : Word) : (s.setBC v).c = loByte v := rfl

/-! ### `setDE` -/

@[simp] theorem State.setDE_a (s : State) (v : Word) : (s.setDE v).a = s.a := rfl
@[simp] theorem State.setDE_b (s : State) (v : Word) : (s.setDE v).b = s.b := rfl
@[simp] theorem State.setDE_c (s : State) (v : Word) : (s.setDE v).c = s.c := rfl
@[simp] theorem State.setDE_h (s : State) (v : Word) : (s.setDE v).h = s.h := rfl
@[simp] theorem State.setDE_l (s : State) (v : Word) : (s.setDE v).l = s.l := rfl
@[simp] theorem State.setDE_f (s : State) (v : Word) : (s.setDE v).f = s.f := rfl
@[simp] theorem State.setDE_sp (s : State) (v : Word) : (s.setDE v).sp = s.sp := rfl
@[simp] theorem State.setDE_pc (s : State) (v : Word) : (s.setDE v).pc = s.pc := rfl
@[simp] theorem State.setDE_ime (s : State) (v : Word) : (s.setDE v).ime = s.ime := rfl
@[simp] theorem State.setDE_halted (s : State) (v : Word) : (s.setDE v).halted = s.halted := rfl
@[simp] theorem State.setDE_stopped (s : State) (v : Word) : (s.setDE v).stopped = s.stopped := rfl
@[simp] theorem State.setDE_fault (s : State) (v : Word) : (s.setDE v).fault = s.fault := rfl
@[simp] theorem State.setDE_rom (s : State) (v : Word) : (s.setDE v).rom = s.rom := rfl
@[simp] theorem State.setDE_bankCount (s : State) (v : Word) : (s.setDE v).bankCount = s.bankCount := rfl
@[simp] theorem State.setDE_currentIndex (s : State) (v : Word) : (s.setDE v).currentIndex = s.currentIndex := rfl
@[simp] theorem State.setDE_romWritePolicy (s : State) (v : Word) : (s.setDE v).romWritePolicy = s.romWritePolicy := rfl
@[simp] theorem State.setDE_stopLength (s : State) (v : Word) : (s.setDE v).stopLength = s.stopLength := rfl
@[simp] theorem State.setDE_status (s : State) (v : Word) : (s.setDE v).status = s.status := rfl
@[simp] theorem State.setDE_cycles (s : State) (v : Word) : (s.setDE v).cycles = s.cycles := rfl
@[simp] theorem State.setDE_bus (s : State) (v : Word) : (s.setDE v).bus = s.bus := rfl
@[simp] theorem State.setDE_extIn (s : State) (v : Word) : (s.setDE v).extIn = s.extIn := rfl
@[simp] theorem State.setDE_wakeIn (s : State) (v : Word) : (s.setDE v).wakeIn = s.wakeIn := rfl
@[simp] theorem State.setDE_d_set (s : State) (v : Word) : (s.setDE v).d = hiByte v := rfl
@[simp] theorem State.setDE_e_set (s : State) (v : Word) : (s.setDE v).e = loByte v := rfl

/-! ### `setHL` -/

@[simp] theorem State.setHL_a (s : State) (v : Word) : (s.setHL v).a = s.a := rfl
@[simp] theorem State.setHL_b (s : State) (v : Word) : (s.setHL v).b = s.b := rfl
@[simp] theorem State.setHL_c (s : State) (v : Word) : (s.setHL v).c = s.c := rfl
@[simp] theorem State.setHL_d (s : State) (v : Word) : (s.setHL v).d = s.d := rfl
@[simp] theorem State.setHL_e (s : State) (v : Word) : (s.setHL v).e = s.e := rfl
@[simp] theorem State.setHL_f (s : State) (v : Word) : (s.setHL v).f = s.f := rfl
@[simp] theorem State.setHL_sp (s : State) (v : Word) : (s.setHL v).sp = s.sp := rfl
@[simp] theorem State.setHL_pc (s : State) (v : Word) : (s.setHL v).pc = s.pc := rfl
@[simp] theorem State.setHL_ime (s : State) (v : Word) : (s.setHL v).ime = s.ime := rfl
@[simp] theorem State.setHL_halted (s : State) (v : Word) : (s.setHL v).halted = s.halted := rfl
@[simp] theorem State.setHL_stopped (s : State) (v : Word) : (s.setHL v).stopped = s.stopped := rfl
@[simp] theorem State.setHL_fault (s : State) (v : Word) : (s.setHL v).fault = s.fault := rfl
@[simp] theorem State.setHL_rom (s : State) (v : Word) : (s.setHL v).rom = s.rom := rfl
@[simp] theorem State.setHL_bankCount (s : State) (v : Word) : (s.setHL v).bankCount = s.bankCount := rfl
@[simp] theorem State.setHL_currentIndex (s : State) (v : Word) : (s.setHL v).currentIndex = s.currentIndex := rfl
@[simp] theorem State.setHL_romWritePolicy (s : State) (v : Word) : (s.setHL v).romWritePolicy = s.romWritePolicy := rfl
@[simp] theorem State.setHL_stopLength (s : State) (v : Word) : (s.setHL v).stopLength = s.stopLength := rfl
@[simp] theorem State.setHL_status (s : State) (v : Word) : (s.setHL v).status = s.status := rfl
@[simp] theorem State.setHL_cycles (s : State) (v : Word) : (s.setHL v).cycles = s.cycles := rfl
@[simp] theorem State.setHL_bus (s : State) (v : Word) : (s.setHL v).bus = s.bus := rfl
@[simp] theorem State.setHL_extIn (s : State) (v : Word) : (s.setHL v).extIn = s.extIn := rfl
@[simp] theorem State.setHL_wakeIn (s : State) (v : Word) : (s.setHL v).wakeIn = s.wakeIn := rfl
@[simp] theorem State.setHL_h_set (s : State) (v : Word) : (s.setHL v).h = hiByte v := rfl
@[simp] theorem State.setHL_l_set (s : State) (v : Word) : (s.setHL v).l = loByte v := rfl

/-! ### `setAF` -/

@[simp] theorem State.setAF_b (s : State) (v : Word) : (s.setAF v).b = s.b := rfl
@[simp] theorem State.setAF_c (s : State) (v : Word) : (s.setAF v).c = s.c := rfl
@[simp] theorem State.setAF_d (s : State) (v : Word) : (s.setAF v).d = s.d := rfl
@[simp] theorem State.setAF_e (s : State) (v : Word) : (s.setAF v).e = s.e := rfl
@[simp] theorem State.setAF_h (s : State) (v : Word) : (s.setAF v).h = s.h := rfl
@[simp] theorem State.setAF_l (s : State) (v : Word) : (s.setAF v).l = s.l := rfl
@[simp] theorem State.setAF_sp (s : State) (v : Word) : (s.setAF v).sp = s.sp := rfl
@[simp] theorem State.setAF_pc (s : State) (v : Word) : (s.setAF v).pc = s.pc := rfl
@[simp] theorem State.setAF_ime (s : State) (v : Word) : (s.setAF v).ime = s.ime := rfl
@[simp] theorem State.setAF_halted (s : State) (v : Word) : (s.setAF v).halted = s.halted := rfl
@[simp] theorem State.setAF_stopped (s : State) (v : Word) : (s.setAF v).stopped = s.stopped := rfl
@[simp] theorem State.setAF_fault (s : State) (v : Word) : (s.setAF v).fault = s.fault := rfl
@[simp] theorem State.setAF_rom (s : State) (v : Word) : (s.setAF v).rom = s.rom := rfl
@[simp] theorem State.setAF_bankCount (s : State) (v : Word) : (s.setAF v).bankCount = s.bankCount := rfl
@[simp] theorem State.setAF_currentIndex (s : State) (v : Word) : (s.setAF v).currentIndex = s.currentIndex := rfl
@[simp] theorem State.setAF_romWritePolicy (s : State) (v : Word) : (s.setAF v).romWritePolicy = s.romWritePolicy := rfl
@[simp] theorem State.setAF_stopLength (s : State) (v : Word) : (s.setAF v).stopLength = s.stopLength := rfl
@[simp] theorem State.setAF_status (s : State) (v : Word) : (s.setAF v).status = s.status := rfl
@[simp] theorem State.setAF_cycles (s : State) (v : Word) : (s.setAF v).cycles = s.cycles := rfl
@[simp] theorem State.setAF_bus (s : State) (v : Word) : (s.setAF v).bus = s.bus := rfl
@[simp] theorem State.setAF_extIn (s : State) (v : Word) : (s.setAF v).extIn = s.extIn := rfl
@[simp] theorem State.setAF_wakeIn (s : State) (v : Word) : (s.setAF v).wakeIn = s.wakeIn := rfl
@[simp] theorem State.setAF_a_set (s : State) (v : Word) : (s.setAF v).a = hiByte v := rfl
@[simp] theorem State.setAF_f_set (s : State) (v : Word) : (s.setAF v).f = Flags.unpack (loByte v) := rfl

/-! ### `memWrite` -/

@[simp] theorem State.memWrite_a (s : State) (x : Word) (v : Byte) : (s.memWrite x v).a = s.a := by
  unfold State.memWrite
  repeat' split
  all_goals rfl

@[simp] theorem State.memWrite_b (s : State) (x : Word) (v : Byte) : (s.memWrite x v).b = s.b := by
  unfold State.memWrite
  repeat' split
  all_goals rfl

@[simp] theorem State.memWrite_c (s : State) (x : Word) (v : Byte) : (s.memWrite x v).c = s.c := by
  unfold State.memWrite
  repeat' split
  all_goals rfl

@[simp] theorem State.memWrite_d (s : State) (x : Word) (v : Byte) : (s.memWrite x v).d = s.d := by
  unfold State.memWrite
  repeat' split
  all_goals rfl

@[simp] theorem State.memWrite_e (s : State) (x : Word) (v : Byte) : (s.memWrite x v).e = s.e := by
  unfold State.memWrite
  repeat' split
  all_goals rfl

@[simp] theorem State.memWrite_h (s : State) (x : Word) (v : Byte) : (s.memWrite x v).h = s.h := by
  unfold State.memWrite
  repeat' split
  all_goals rfl

@[simp] theorem State.memWrite_l (s : State) (x : Word) (v : Byte) : (s.memWrite x v).l = s.l := by
  unfold State.memWrite
  repeat' split
  all_goals rfl

@[simp] theorem State.memWrite_f (s : State) (x : Word) (v : Byte) : (s.memWrite x v).f = s.f := by
  unfold State.memWrite
  repeat' split
  all_goals rfl

@[simp] theorem State.memWrite_sp (s : State) (x : Word) (v : Byte) : (s.memWrite x v).sp = s.sp := by
  unfold State.memWrite
  repeat' split
  all_goals rfl

@[simp] theorem State.memWrite_pc (s : State) (x : Word) (v : Byte) : (s.memWrite x v).pc = s.pc := by
  unfold State.memWrite
  repeat' split
  all_goals rfl

@[simp] theorem State.memWrite_ime (s : State) (x : Word) (v : Byte) : (s.memWrite x v).ime = s.ime := by
  unfold State.memWrite
  repeat' split
  all_goals rfl

@[simp] theorem State.memWrite_halted (s : State) (x : Word) (v : Byte) : (s.memWrite x v).halted = s.halted := by
  unfold State.memWrite
  repeat' split
  all_goals rfl

@[simp] theorem State.memWrite_stopped (s : State) (x : Word) (v : Byte) : (s.memWrite x v).stopped = s.stopped := by
  unfold State.memWrite
  repeat' split
  all_goals rfl

@[simp] theorem State.memWrite_fault (s : State) (x : Word) (v : Byte) : (s.memWrite x v).fault = s.fault := by
  unfold State.memWrite
  repeat' split
  all_goals rfl

@[simp] theorem State.memWrite_bankCount (s : State) (x : Word) (v : Byte) : (s.memWrite x v).bankCount = s.bankCount := by
  unfold State.memWrite
  repeat' split
  all_goals rfl

@[simp] theorem State.memWrite_currentIndex (s : State) (x : Word) (v : Byte) : (s.memWrite x v).currentIndex = s.currentIndex := by
  unfold State.memWrite
  repeat' split
  all_goals rfl

@[simp] theorem State.memWrite_romWritePolicy (s : State) (x : Word) (v : Byte) : (s.memWrite x v).romWritePolicy = s.romWritePolicy := by
  unfold State.memWrite
  repeat' split
  all_goals rfl

@[simp] theorem State.memWrite_stopLength (s : State) (x : Word) (v : Byte) : (s.memWrite x v).stopLength = s.stopLength := by
  unfold State.memWrite
  repeat' split
  all_goals rfl

@[simp] theorem State.memWrite_status (s : State) (x : Word) (v : Byte) : (s.memWrite x v).status = s.status := by
  unfold State.memWrite
  repeat' split
  all_goals rfl

@[simp] theorem State.memWrite_cycles (s : State) (x : Word) (v : Byte) : (s.memWrite x v).cycles = s.cycles := by
  unfold State.memWrite
  repeat' split
  all_goals rfl

@[simp] theorem State.memWrite_extIn (s : State) (x : Word) (v : Byte) : (s.memWrite x v).extIn = s.extIn := by
  unfold State.memWrite
  repeat' split
  all_goals rfl

@[simp] theorem State.memWrite_wakeIn (s : State) (x : Word) (v : Byte) : (s.memWrite x v).wakeIn = s.wakeIn := by
  unfold State.memWrite
  repeat' split
  all_goals rfl


/-! ### `push16` -/

@[simp] theorem State.push16_a (s : State) (v : Word) : (s.push16 v).a = s.a := by
  simp [State.push16]

@[simp] theorem State.push16_b (s : State) (v : Word) : (s.push16 v).b = s.b := by
  simp [State.push16]

@[simp] theorem State.push16_c (s : State) (v : Word) : (s.push16 v).c = s.c := by
  simp [State.push16]

@[simp] theorem State.push16_d (s : State) (v : Word) : (s.push16 v).d = s.d := by
  simp [State.push16]

@[simp] theorem State.push16_e (s : State) (v : Word) : (s.push16 v).e = s.e := by
  simp [State.push16]

@[simp] theorem State.push16_h (s : State) (v : Word) : (s.push16 v).h = s.h := by
  simp [State.push16]

@[simp] theorem State.push16_l (s : State) (v : Word) : (s.push16 v).l = s.l := by
  simp [State.push16]

@[simp] theorem State.push16_f (s : State) (v : Word) : (s.push16 v).f = s.f := by
  simp [State.push16]

@[simp] theorem State.push16_pc (s : State) (v : Word) : (s.push16 v).pc = s.pc := by
  simp [State.push16]

@[simp] theorem State.push16_ime (s : State) (v : Word) : (s.push16 v).ime = s.ime := by
  simp [State.push16]

@[simp] theorem State.push16_halted (s : State) (v : Word) : (s.push16 v).halted = s.halted := by
  simp [State.push16]

@[simp] theorem State.push16_stopped (s : State) (v : Word) : (s.push16 v).stopped = s.stopped := by
  simp [State.push16]

@[simp] theorem State.push16_fault (s : State) (v : Word) : (s.push16 v).fault = s.fault := by
  simp [State.push16]

@[simp] theorem State.push16_bankCount (s : State) (v : Word) : (s.push16 v).bankCount = s.bankCount := by
  simp [State.push16]

@[simp] theorem State.push16_currentIndex (s : State) (v : Word) : (s.push16 v).currentIndex = s.currentIndex := by
  simp [State.push16]

@[simp] theorem State.push16_romWritePolicy (s : State) (v : Word) : (s.push16 v).romWritePolicy = s.romWritePolicy := by
  simp [State.push16]

@[simp] theorem State.push16_stopLength (s : State) (v : Word) : (s.push16 v).stopLength = s.stopLength := by
  simp [State.push16]

@[simp] theorem State.push16_status (s : State) (v : Word) : (s.push16 v).status = s.status := by
  simp [State.push16]

@[simp] theorem State.push16_cycles (s : State) (v : Word) : (s.push16 v).cycles = s.cycles := by
  simp [State.push16]

@[simp] theorem State.push16_extIn (s : State) (v : Word) : (s.push16 v).extIn = s.extIn := by
  simp [State.push16]

@[simp] theorem State.push16_wakeIn (s : State) (v : Word) : (s.push16 v).wakeIn = s.wakeIn := by
  simp [State.push16]

@[simp] theorem State.push16_sp_set (s : State) (v : Word) : (s.push16 v).sp = s.sp - 1 - 1 := by
  simp [State.push16]


/-! ### `pop16` -/

@[simp] theorem State.pop16_a (s : State) : s.pop16.2.a = s.a := rfl
@[simp] theorem State.pop16_b (s : State) : s.pop16.2.b = s.b := rfl
@[simp] theorem State.pop16_c (s : State) : s.pop16.2.c = s.c := rfl
@[simp] theorem State.pop16_d (s : State) : s.pop16.2.d = s.d := rfl
@[simp] theorem State.pop16_e (s : State) : s.pop16.2.e = s.e := rfl
@[simp] theorem State.pop16_h (s : State) : s.pop16.2.h = s.h := rfl
@[simp] theorem State.pop16_l (s : State) : s.pop16.2.l = s.l := rfl
@[simp] theorem State.pop16_f (s : State) : s.pop16.2.f = s.f := rfl
@[simp] theorem State.pop16_pc (s : State) : s.pop16.2.pc = s.pc := rfl
@[simp] theorem State.pop16_ime (s : State) : s.pop16.2.ime = s.ime := rfl
@[simp] theorem State.pop16_halted (s : State) : s.pop16.2.halted = s.halted := rfl
@[simp] theorem State.pop16_stopped (s : State) : s.pop16.2.stopped = s.stopped := rfl
@[simp] theorem State.pop16_fault (s : State) : s.pop16.2.fault = s.fault := rfl
@[simp] theorem State.pop16_rom (s : State) : s.pop16.2.rom = s.rom := rfl
@[simp] theorem State.pop16_bankCount (s : State) : s.pop16.2.bankCount = s.bankCount := rfl
@[simp] theorem State.pop16_currentIndex (s : State) : s.pop16.2.currentIndex = s.currentIndex := rfl
@[simp] theorem State.pop16_romWritePolicy (s : State) : s.pop16.2.romWritePolicy = s.romWritePolicy := rfl
@[simp] theorem State.pop16_stopLength (s : State) : s.pop16.2.stopLength = s.stopLength := rfl
@[simp] theorem State.pop16_status (s : State) : s.pop16.2.status = s.status := rfl
@[simp] theorem State.pop16_cycles (s : State) : s.pop16.2.cycles = s.cycles := rfl
@[simp] theorem State.pop16_wakeIn (s : State) : s.pop16.2.wakeIn = s.wakeIn := rfl
@[simp] theorem State.pop16_sp_set (s : State) : s.pop16.2.sp = s.sp + 1 + 1 := rfl

/-! ### `fetch8` -/

@[simp] theorem State.fetch8_a (s : State) : s.fetch8.2.a = s.a := rfl
@[simp] theorem State.fetch8_b (s : State) : s.fetch8.2.b = s.b := rfl
@[simp] theorem State.fetch8_c (s : State) : s.fetch8.2.c = s.c := rfl
@[simp] theorem State.fetch8_d (s : State) : s.fetch8.2.d = s.d := rfl
@[simp] theorem State.fetch8_e (s : State) : s.fetch8.2.e = s.e := rfl
@[simp] theorem State.fetch8_h (s : State) : s.fetch8.2.h = s.h := rfl
@[simp] theorem State.fetch8_l (s : State) : s.fetch8.2.l = s.l := rfl
@[simp] theorem State.fetch8_f (s : State) : s.fetch8.2.f = s.f := rfl
@[simp] theorem State.fetch8_sp (s : State) : s.fetch8.2.sp = s.sp := rfl
@[simp] theorem State.fetch8_ime (s : State) : s.fetch8.2.ime = s.ime := rfl
@[simp] theorem State.fetch8_halted (s : State) : s.fetch8.2.halted = s.halted := rfl
@[simp] theorem State.fetch8_stopped (s : State) : s.fetch8.2.stopped = s.stopped := rfl
@[simp] theorem State.fetch8_fault (s : State) : s.fetch8.2.fault = s.fault := rfl
@[simp] theorem State.fetch8_rom (s : State) : s.fetch8.2.rom = s.rom := rfl
@[simp] theorem State.fetch8_bankCount (s : State) : s.fetch8.2.bankCount = s.bankCount := rfl
@[simp] theorem State.fetch8_currentIndex (s : State) : s.fetch8.2.currentIndex = s.currentIndex := rfl
@[simp] theorem State.fetch8_romWritePolicy (s : State) : s.fetch8.2.romWritePolicy = s.romWritePolicy := rfl
@[simp] theorem State.fetch8_stopLength (s : State) : s.fetch8.2.stopLength = s.stopLength := rfl
@[simp] theorem State.fetch8_status (s : State) : s.fetch8.2.status = s.status := rfl
@[simp] theorem State.fetch8_cycles (s : State) : s.fetch8.2.cycles = s.cycles := rfl
@[simp] theorem State.fetch8_wakeIn (s : State) : s.fetch8.2.wakeIn = s.wakeIn := rfl
@[simp] theorem State.fetch8_pc_set (s : State) : s.fetch8.2.pc = s.pc + 1 := rfl

/-! ### `fetchInstr` -/

/-- What a fetch leaves (R130, R131, R140): one `Fetch8` per byte of the format. -/
theorem State.fetchInstr_snd (s : State) :
    s.fetchInstr.2 =
      match instrFormat s.stopLength s.fetch8.1 with
      | .op => s.fetch8.2
      | .opImm8 => s.fetch8.2.fetch8.2
      | .opImm16 => s.fetch8.2.fetch8.2.fetch8.2
      | .prefixed => s.fetch8.2.fetch8.2 := by
  unfold State.fetchInstr
  cases h : instrFormat s.stopLength s.fetch8.1 <;> simp only [h]

@[simp] theorem State.fetchInstr_a (s : State) : s.fetchInstr.2.a = s.a := by
  rw [State.fetchInstr_snd]
  split <;> simp

@[simp] theorem State.fetchInstr_b (s : State) : s.fetchInstr.2.b = s.b := by
  rw [State.fetchInstr_snd]
  split <;> simp

@[simp] theorem State.fetchInstr_c (s : State) : s.fetchInstr.2.c = s.c := by
  rw [State.fetchInstr_snd]
  split <;> simp

@[simp] theorem State.fetchInstr_d (s : State) : s.fetchInstr.2.d = s.d := by
  rw [State.fetchInstr_snd]
  split <;> simp

@[simp] theorem State.fetchInstr_e (s : State) : s.fetchInstr.2.e = s.e := by
  rw [State.fetchInstr_snd]
  split <;> simp

@[simp] theorem State.fetchInstr_h (s : State) : s.fetchInstr.2.h = s.h := by
  rw [State.fetchInstr_snd]
  split <;> simp

@[simp] theorem State.fetchInstr_l (s : State) : s.fetchInstr.2.l = s.l := by
  rw [State.fetchInstr_snd]
  split <;> simp

@[simp] theorem State.fetchInstr_f (s : State) : s.fetchInstr.2.f = s.f := by
  rw [State.fetchInstr_snd]
  split <;> simp

@[simp] theorem State.fetchInstr_sp (s : State) : s.fetchInstr.2.sp = s.sp := by
  rw [State.fetchInstr_snd]
  split <;> simp

@[simp] theorem State.fetchInstr_ime (s : State) : s.fetchInstr.2.ime = s.ime := by
  rw [State.fetchInstr_snd]
  split <;> simp

@[simp] theorem State.fetchInstr_halted (s : State) : s.fetchInstr.2.halted = s.halted := by
  rw [State.fetchInstr_snd]
  split <;> simp

@[simp] theorem State.fetchInstr_stopped (s : State) : s.fetchInstr.2.stopped = s.stopped := by
  rw [State.fetchInstr_snd]
  split <;> simp

@[simp] theorem State.fetchInstr_fault (s : State) : s.fetchInstr.2.fault = s.fault := by
  rw [State.fetchInstr_snd]
  split <;> simp

@[simp] theorem State.fetchInstr_rom (s : State) : s.fetchInstr.2.rom = s.rom := by
  rw [State.fetchInstr_snd]
  split <;> simp

@[simp] theorem State.fetchInstr_bankCount (s : State) : s.fetchInstr.2.bankCount = s.bankCount := by
  rw [State.fetchInstr_snd]
  split <;> simp

@[simp] theorem State.fetchInstr_currentIndex (s : State) : s.fetchInstr.2.currentIndex = s.currentIndex := by
  rw [State.fetchInstr_snd]
  split <;> simp

@[simp] theorem State.fetchInstr_romWritePolicy (s : State) : s.fetchInstr.2.romWritePolicy = s.romWritePolicy := by
  rw [State.fetchInstr_snd]
  split <;> simp

@[simp] theorem State.fetchInstr_stopLength (s : State) : s.fetchInstr.2.stopLength = s.stopLength := by
  rw [State.fetchInstr_snd]
  split <;> simp

@[simp] theorem State.fetchInstr_status (s : State) : s.fetchInstr.2.status = s.status := by
  rw [State.fetchInstr_snd]
  split <;> simp

@[simp] theorem State.fetchInstr_cycles (s : State) : s.fetchInstr.2.cycles = s.cycles := by
  rw [State.fetchInstr_snd]
  split <;> simp

@[simp] theorem State.fetchInstr_wakeIn (s : State) : s.fetchInstr.2.wakeIn = s.wakeIn := by
  rw [State.fetchInstr_snd]
  split <;> simp


/-! ### `setReg8` -/

@[simp] theorem State.setReg8_f (s : State) (r : Reg8) (v : Byte) : (s.setReg8 r v).f = s.f := by
  cases r <;> rfl

@[simp] theorem State.setReg8_sp (s : State) (r : Reg8) (v : Byte) : (s.setReg8 r v).sp = s.sp := by
  cases r <;> rfl

@[simp] theorem State.setReg8_pc (s : State) (r : Reg8) (v : Byte) : (s.setReg8 r v).pc = s.pc := by
  cases r <;> rfl

@[simp] theorem State.setReg8_ime (s : State) (r : Reg8) (v : Byte) : (s.setReg8 r v).ime = s.ime := by
  cases r <;> rfl

@[simp] theorem State.setReg8_halted (s : State) (r : Reg8) (v : Byte) : (s.setReg8 r v).halted = s.halted := by
  cases r <;> rfl

@[simp] theorem State.setReg8_stopped (s : State) (r : Reg8) (v : Byte) : (s.setReg8 r v).stopped = s.stopped := by
  cases r <;> rfl

@[simp] theorem State.setReg8_fault (s : State) (r : Reg8) (v : Byte) : (s.setReg8 r v).fault = s.fault := by
  cases r <;> rfl

@[simp] theorem State.setReg8_rom (s : State) (r : Reg8) (v : Byte) : (s.setReg8 r v).rom = s.rom := by
  cases r <;> rfl

@[simp] theorem State.setReg8_bankCount (s : State) (r : Reg8) (v : Byte) : (s.setReg8 r v).bankCount = s.bankCount := by
  cases r <;> rfl

@[simp] theorem State.setReg8_currentIndex (s : State) (r : Reg8) (v : Byte) : (s.setReg8 r v).currentIndex = s.currentIndex := by
  cases r <;> rfl

@[simp] theorem State.setReg8_romWritePolicy (s : State) (r : Reg8) (v : Byte) : (s.setReg8 r v).romWritePolicy = s.romWritePolicy := by
  cases r <;> rfl

@[simp] theorem State.setReg8_stopLength (s : State) (r : Reg8) (v : Byte) : (s.setReg8 r v).stopLength = s.stopLength := by
  cases r <;> rfl

@[simp] theorem State.setReg8_status (s : State) (r : Reg8) (v : Byte) : (s.setReg8 r v).status = s.status := by
  cases r <;> rfl

@[simp] theorem State.setReg8_cycles (s : State) (r : Reg8) (v : Byte) : (s.setReg8 r v).cycles = s.cycles := by
  cases r <;> rfl

@[simp] theorem State.setReg8_bus (s : State) (r : Reg8) (v : Byte) : (s.setReg8 r v).bus = s.bus := by
  cases r <;> rfl

@[simp] theorem State.setReg8_extIn (s : State) (r : Reg8) (v : Byte) : (s.setReg8 r v).extIn = s.extIn := by
  cases r <;> rfl

@[simp] theorem State.setReg8_wakeIn (s : State) (r : Reg8) (v : Byte) : (s.setReg8 r v).wakeIn = s.wakeIn := by
  cases r <;> rfl

@[simp] theorem State.reg8_setReg8 (s : State) (r q : Reg8) (v : Byte) :
    (s.setReg8 r v).reg8 q = if q = r then v else s.reg8 q := by
  cases r <;> cases q <;> rfl


/-! ### `setReg16` -/

@[simp] theorem State.setReg16_a (s : State) (r : Reg16) (v : Word) : (s.setReg16 r v).a = s.a := by
  cases r <;> rfl

@[simp] theorem State.setReg16_f (s : State) (r : Reg16) (v : Word) : (s.setReg16 r v).f = s.f := by
  cases r <;> rfl

@[simp] theorem State.setReg16_pc (s : State) (r : Reg16) (v : Word) : (s.setReg16 r v).pc = s.pc := by
  cases r <;> rfl

@[simp] theorem State.setReg16_ime (s : State) (r : Reg16) (v : Word) : (s.setReg16 r v).ime = s.ime := by
  cases r <;> rfl

@[simp] theorem State.setReg16_halted (s : State) (r : Reg16) (v : Word) : (s.setReg16 r v).halted = s.halted := by
  cases r <;> rfl

@[simp] theorem State.setReg16_stopped (s : State) (r : Reg16) (v : Word) : (s.setReg16 r v).stopped = s.stopped := by
  cases r <;> rfl

@[simp] theorem State.setReg16_fault (s : State) (r : Reg16) (v : Word) : (s.setReg16 r v).fault = s.fault := by
  cases r <;> rfl

@[simp] theorem State.setReg16_rom (s : State) (r : Reg16) (v : Word) : (s.setReg16 r v).rom = s.rom := by
  cases r <;> rfl

@[simp] theorem State.setReg16_bankCount (s : State) (r : Reg16) (v : Word) : (s.setReg16 r v).bankCount = s.bankCount := by
  cases r <;> rfl

@[simp] theorem State.setReg16_currentIndex (s : State) (r : Reg16) (v : Word) : (s.setReg16 r v).currentIndex = s.currentIndex := by
  cases r <;> rfl

@[simp] theorem State.setReg16_romWritePolicy (s : State) (r : Reg16) (v : Word) : (s.setReg16 r v).romWritePolicy = s.romWritePolicy := by
  cases r <;> rfl

@[simp] theorem State.setReg16_stopLength (s : State) (r : Reg16) (v : Word) : (s.setReg16 r v).stopLength = s.stopLength := by
  cases r <;> rfl

@[simp] theorem State.setReg16_status (s : State) (r : Reg16) (v : Word) : (s.setReg16 r v).status = s.status := by
  cases r <;> rfl

@[simp] theorem State.setReg16_cycles (s : State) (r : Reg16) (v : Word) : (s.setReg16 r v).cycles = s.cycles := by
  cases r <;> rfl

@[simp] theorem State.setReg16_bus (s : State) (r : Reg16) (v : Word) : (s.setReg16 r v).bus = s.bus := by
  cases r <;> rfl

@[simp] theorem State.setReg16_extIn (s : State) (r : Reg16) (v : Word) : (s.setReg16 r v).extIn = s.extIn := by
  cases r <;> rfl

@[simp] theorem State.setReg16_wakeIn (s : State) (r : Reg16) (v : Word) : (s.setReg16 r v).wakeIn = s.wakeIn := by
  cases r <;> rfl


/-! ### `setStackReg` -/

@[simp] theorem State.setStackReg_sp (s : State) (r : StackReg) (v : Word) : (s.setStackReg r v).sp = s.sp := by
  cases r <;> rfl

@[simp] theorem State.setStackReg_pc (s : State) (r : StackReg) (v : Word) : (s.setStackReg r v).pc = s.pc := by
  cases r <;> rfl

@[simp] theorem State.setStackReg_ime (s : State) (r : StackReg) (v : Word) : (s.setStackReg r v).ime = s.ime := by
  cases r <;> rfl

@[simp] theorem State.setStackReg_halted (s : State) (r : StackReg) (v : Word) : (s.setStackReg r v).halted = s.halted := by
  cases r <;> rfl

@[simp] theorem State.setStackReg_stopped (s : State) (r : StackReg) (v : Word) : (s.setStackReg r v).stopped = s.stopped := by
  cases r <;> rfl

@[simp] theorem State.setStackReg_fault (s : State) (r : StackReg) (v : Word) : (s.setStackReg r v).fault = s.fault := by
  cases r <;> rfl

@[simp] theorem State.setStackReg_rom (s : State) (r : StackReg) (v : Word) : (s.setStackReg r v).rom = s.rom := by
  cases r <;> rfl

@[simp] theorem State.setStackReg_bankCount (s : State) (r : StackReg) (v : Word) : (s.setStackReg r v).bankCount = s.bankCount := by
  cases r <;> rfl

@[simp] theorem State.setStackReg_currentIndex (s : State) (r : StackReg) (v : Word) : (s.setStackReg r v).currentIndex = s.currentIndex := by
  cases r <;> rfl

@[simp] theorem State.setStackReg_romWritePolicy (s : State) (r : StackReg) (v : Word) : (s.setStackReg r v).romWritePolicy = s.romWritePolicy := by
  cases r <;> rfl

@[simp] theorem State.setStackReg_stopLength (s : State) (r : StackReg) (v : Word) : (s.setStackReg r v).stopLength = s.stopLength := by
  cases r <;> rfl

@[simp] theorem State.setStackReg_status (s : State) (r : StackReg) (v : Word) : (s.setStackReg r v).status = s.status := by
  cases r <;> rfl

@[simp] theorem State.setStackReg_cycles (s : State) (r : StackReg) (v : Word) : (s.setStackReg r v).cycles = s.cycles := by
  cases r <;> rfl

@[simp] theorem State.setStackReg_bus (s : State) (r : StackReg) (v : Word) : (s.setStackReg r v).bus = s.bus := by
  cases r <;> rfl

@[simp] theorem State.setStackReg_extIn (s : State) (r : StackReg) (v : Word) : (s.setStackReg r v).extIn = s.extIn := by
  cases r <;> rfl

@[simp] theorem State.setStackReg_wakeIn (s : State) (r : StackReg) (v : Word) : (s.setStackReg r v).wakeIn = s.wakeIn := by
  cases r <;> rfl


/-! ### `postModify` -/

@[simp] theorem State.postModify_a (s : State) (m : MemOperand) : (s.postModify m).a = s.a := by
  cases m <;> rfl

@[simp] theorem State.postModify_b (s : State) (m : MemOperand) : (s.postModify m).b = s.b := by
  cases m <;> rfl

@[simp] theorem State.postModify_c (s : State) (m : MemOperand) : (s.postModify m).c = s.c := by
  cases m <;> rfl

@[simp] theorem State.postModify_d (s : State) (m : MemOperand) : (s.postModify m).d = s.d := by
  cases m <;> rfl

@[simp] theorem State.postModify_e (s : State) (m : MemOperand) : (s.postModify m).e = s.e := by
  cases m <;> rfl

@[simp] theorem State.postModify_f (s : State) (m : MemOperand) : (s.postModify m).f = s.f := by
  cases m <;> rfl

@[simp] theorem State.postModify_sp (s : State) (m : MemOperand) : (s.postModify m).sp = s.sp := by
  cases m <;> rfl

@[simp] theorem State.postModify_pc (s : State) (m : MemOperand) : (s.postModify m).pc = s.pc := by
  cases m <;> rfl

@[simp] theorem State.postModify_ime (s : State) (m : MemOperand) : (s.postModify m).ime = s.ime := by
  cases m <;> rfl

@[simp] theorem State.postModify_halted (s : State) (m : MemOperand) : (s.postModify m).halted = s.halted := by
  cases m <;> rfl

@[simp] theorem State.postModify_stopped (s : State) (m : MemOperand) : (s.postModify m).stopped = s.stopped := by
  cases m <;> rfl

@[simp] theorem State.postModify_fault (s : State) (m : MemOperand) : (s.postModify m).fault = s.fault := by
  cases m <;> rfl

@[simp] theorem State.postModify_rom (s : State) (m : MemOperand) : (s.postModify m).rom = s.rom := by
  cases m <;> rfl

@[simp] theorem State.postModify_bankCount (s : State) (m : MemOperand) : (s.postModify m).bankCount = s.bankCount := by
  cases m <;> rfl

@[simp] theorem State.postModify_currentIndex (s : State) (m : MemOperand) : (s.postModify m).currentIndex = s.currentIndex := by
  cases m <;> rfl

@[simp] theorem State.postModify_romWritePolicy (s : State) (m : MemOperand) : (s.postModify m).romWritePolicy = s.romWritePolicy := by
  cases m <;> rfl

@[simp] theorem State.postModify_stopLength (s : State) (m : MemOperand) : (s.postModify m).stopLength = s.stopLength := by
  cases m <;> rfl

@[simp] theorem State.postModify_status (s : State) (m : MemOperand) : (s.postModify m).status = s.status := by
  cases m <;> rfl

@[simp] theorem State.postModify_cycles (s : State) (m : MemOperand) : (s.postModify m).cycles = s.cycles := by
  cases m <;> rfl

@[simp] theorem State.postModify_bus (s : State) (m : MemOperand) : (s.postModify m).bus = s.bus := by
  cases m <;> rfl

@[simp] theorem State.postModify_extIn (s : State) (m : MemOperand) : (s.postModify m).extIn = s.extIn := by
  cases m <;> rfl

@[simp] theorem State.postModify_wakeIn (s : State) (m : MemOperand) : (s.postModify m).wakeIn = s.wakeIn := by
  cases m <;> rfl


/-! ### `readOperand` -/

@[simp] theorem State.readOperand_a (s : State) (o : Operand8) : (s.readOperand o).2.a = s.a := by
  cases o <;> simp [State.readOperand]

@[simp] theorem State.readOperand_b (s : State) (o : Operand8) : (s.readOperand o).2.b = s.b := by
  cases o <;> simp [State.readOperand]

@[simp] theorem State.readOperand_c (s : State) (o : Operand8) : (s.readOperand o).2.c = s.c := by
  cases o <;> simp [State.readOperand]

@[simp] theorem State.readOperand_d (s : State) (o : Operand8) : (s.readOperand o).2.d = s.d := by
  cases o <;> simp [State.readOperand]

@[simp] theorem State.readOperand_e (s : State) (o : Operand8) : (s.readOperand o).2.e = s.e := by
  cases o <;> simp [State.readOperand]

@[simp] theorem State.readOperand_f (s : State) (o : Operand8) : (s.readOperand o).2.f = s.f := by
  cases o <;> simp [State.readOperand]

@[simp] theorem State.readOperand_sp (s : State) (o : Operand8) : (s.readOperand o).2.sp = s.sp := by
  cases o <;> simp [State.readOperand]

@[simp] theorem State.readOperand_pc (s : State) (o : Operand8) : (s.readOperand o).2.pc = s.pc := by
  cases o <;> simp [State.readOperand]

@[simp] theorem State.readOperand_ime (s : State) (o : Operand8) : (s.readOperand o).2.ime = s.ime := by
  cases o <;> simp [State.readOperand]

@[simp] theorem State.readOperand_halted (s : State) (o : Operand8) : (s.readOperand o).2.halted = s.halted := by
  cases o <;> simp [State.readOperand]

@[simp] theorem State.readOperand_stopped (s : State) (o : Operand8) : (s.readOperand o).2.stopped = s.stopped := by
  cases o <;> simp [State.readOperand]

@[simp] theorem State.readOperand_fault (s : State) (o : Operand8) : (s.readOperand o).2.fault = s.fault := by
  cases o <;> simp [State.readOperand]

@[simp] theorem State.readOperand_rom (s : State) (o : Operand8) : (s.readOperand o).2.rom = s.rom := by
  cases o <;> simp [State.readOperand]

@[simp] theorem State.readOperand_bankCount (s : State) (o : Operand8) : (s.readOperand o).2.bankCount = s.bankCount := by
  cases o <;> simp [State.readOperand]

@[simp] theorem State.readOperand_currentIndex (s : State) (o : Operand8) : (s.readOperand o).2.currentIndex = s.currentIndex := by
  cases o <;> simp [State.readOperand]

@[simp] theorem State.readOperand_romWritePolicy (s : State) (o : Operand8) : (s.readOperand o).2.romWritePolicy = s.romWritePolicy := by
  cases o <;> simp [State.readOperand]

@[simp] theorem State.readOperand_stopLength (s : State) (o : Operand8) : (s.readOperand o).2.stopLength = s.stopLength := by
  cases o <;> simp [State.readOperand]

@[simp] theorem State.readOperand_status (s : State) (o : Operand8) : (s.readOperand o).2.status = s.status := by
  cases o <;> simp [State.readOperand]

@[simp] theorem State.readOperand_cycles (s : State) (o : Operand8) : (s.readOperand o).2.cycles = s.cycles := by
  cases o <;> simp [State.readOperand]

@[simp] theorem State.readOperand_wakeIn (s : State) (o : Operand8) : (s.readOperand o).2.wakeIn = s.wakeIn := by
  cases o <;> simp [State.readOperand]


/-! ### `readSource` -/

@[simp] theorem State.readSource_a (s : State) (x : Source8) : (s.readSource x).2.a = s.a := by
  cases x <;> simp [State.readSource]

@[simp] theorem State.readSource_b (s : State) (x : Source8) : (s.readSource x).2.b = s.b := by
  cases x <;> simp [State.readSource]

@[simp] theorem State.readSource_c (s : State) (x : Source8) : (s.readSource x).2.c = s.c := by
  cases x <;> simp [State.readSource]

@[simp] theorem State.readSource_d (s : State) (x : Source8) : (s.readSource x).2.d = s.d := by
  cases x <;> simp [State.readSource]

@[simp] theorem State.readSource_e (s : State) (x : Source8) : (s.readSource x).2.e = s.e := by
  cases x <;> simp [State.readSource]

@[simp] theorem State.readSource_f (s : State) (x : Source8) : (s.readSource x).2.f = s.f := by
  cases x <;> simp [State.readSource]

@[simp] theorem State.readSource_sp (s : State) (x : Source8) : (s.readSource x).2.sp = s.sp := by
  cases x <;> simp [State.readSource]

@[simp] theorem State.readSource_pc (s : State) (x : Source8) : (s.readSource x).2.pc = s.pc := by
  cases x <;> simp [State.readSource]

@[simp] theorem State.readSource_ime (s : State) (x : Source8) : (s.readSource x).2.ime = s.ime := by
  cases x <;> simp [State.readSource]

@[simp] theorem State.readSource_halted (s : State) (x : Source8) : (s.readSource x).2.halted = s.halted := by
  cases x <;> simp [State.readSource]

@[simp] theorem State.readSource_stopped (s : State) (x : Source8) : (s.readSource x).2.stopped = s.stopped := by
  cases x <;> simp [State.readSource]

@[simp] theorem State.readSource_fault (s : State) (x : Source8) : (s.readSource x).2.fault = s.fault := by
  cases x <;> simp [State.readSource]

@[simp] theorem State.readSource_rom (s : State) (x : Source8) : (s.readSource x).2.rom = s.rom := by
  cases x <;> simp [State.readSource]

@[simp] theorem State.readSource_bankCount (s : State) (x : Source8) : (s.readSource x).2.bankCount = s.bankCount := by
  cases x <;> simp [State.readSource]

@[simp] theorem State.readSource_currentIndex (s : State) (x : Source8) : (s.readSource x).2.currentIndex = s.currentIndex := by
  cases x <;> simp [State.readSource]

@[simp] theorem State.readSource_romWritePolicy (s : State) (x : Source8) : (s.readSource x).2.romWritePolicy = s.romWritePolicy := by
  cases x <;> simp [State.readSource]

@[simp] theorem State.readSource_stopLength (s : State) (x : Source8) : (s.readSource x).2.stopLength = s.stopLength := by
  cases x <;> simp [State.readSource]

@[simp] theorem State.readSource_status (s : State) (x : Source8) : (s.readSource x).2.status = s.status := by
  cases x <;> simp [State.readSource]

@[simp] theorem State.readSource_cycles (s : State) (x : Source8) : (s.readSource x).2.cycles = s.cycles := by
  cases x <;> simp [State.readSource]

@[simp] theorem State.readSource_wakeIn (s : State) (x : Source8) : (s.readSource x).2.wakeIn = s.wakeIn := by
  cases x <;> simp [State.readSource]


/-! ### `writeOperand` -/

@[simp] theorem State.writeOperand_f (s : State) (o : Operand8) (v : Byte) : (s.writeOperand o v).f = s.f := by
  cases o <;> simp [State.writeOperand]

@[simp] theorem State.writeOperand_sp (s : State) (o : Operand8) (v : Byte) : (s.writeOperand o v).sp = s.sp := by
  cases o <;> simp [State.writeOperand]

@[simp] theorem State.writeOperand_pc (s : State) (o : Operand8) (v : Byte) : (s.writeOperand o v).pc = s.pc := by
  cases o <;> simp [State.writeOperand]

@[simp] theorem State.writeOperand_ime (s : State) (o : Operand8) (v : Byte) : (s.writeOperand o v).ime = s.ime := by
  cases o <;> simp [State.writeOperand]

@[simp] theorem State.writeOperand_halted (s : State) (o : Operand8) (v : Byte) : (s.writeOperand o v).halted = s.halted := by
  cases o <;> simp [State.writeOperand]

@[simp] theorem State.writeOperand_stopped (s : State) (o : Operand8) (v : Byte) : (s.writeOperand o v).stopped = s.stopped := by
  cases o <;> simp [State.writeOperand]

@[simp] theorem State.writeOperand_fault (s : State) (o : Operand8) (v : Byte) : (s.writeOperand o v).fault = s.fault := by
  cases o <;> simp [State.writeOperand]

@[simp] theorem State.writeOperand_bankCount (s : State) (o : Operand8) (v : Byte) : (s.writeOperand o v).bankCount = s.bankCount := by
  cases o <;> simp [State.writeOperand]

@[simp] theorem State.writeOperand_currentIndex (s : State) (o : Operand8) (v : Byte) : (s.writeOperand o v).currentIndex = s.currentIndex := by
  cases o <;> simp [State.writeOperand]

@[simp] theorem State.writeOperand_romWritePolicy (s : State) (o : Operand8) (v : Byte) : (s.writeOperand o v).romWritePolicy = s.romWritePolicy := by
  cases o <;> simp [State.writeOperand]

@[simp] theorem State.writeOperand_stopLength (s : State) (o : Operand8) (v : Byte) : (s.writeOperand o v).stopLength = s.stopLength := by
  cases o <;> simp [State.writeOperand]

@[simp] theorem State.writeOperand_status (s : State) (o : Operand8) (v : Byte) : (s.writeOperand o v).status = s.status := by
  cases o <;> simp [State.writeOperand]

@[simp] theorem State.writeOperand_cycles (s : State) (o : Operand8) (v : Byte) : (s.writeOperand o v).cycles = s.cycles := by
  cases o <;> simp [State.writeOperand]

@[simp] theorem State.writeOperand_extIn (s : State) (o : Operand8) (v : Byte) : (s.writeOperand o v).extIn = s.extIn := by
  cases o <;> simp [State.writeOperand]

@[simp] theorem State.writeOperand_wakeIn (s : State) (o : Operand8) (v : Byte) : (s.writeOperand o v).wakeIn = s.wakeIn := by
  cases o <;> simp [State.writeOperand]


/-! ### `takeWake` -/

@[simp] theorem State.takeWake_a (s : State) : s.takeWake.a = s.a := by
  unfold State.takeWake
  repeat' split
  all_goals rfl

@[simp] theorem State.takeWake_b (s : State) : s.takeWake.b = s.b := by
  unfold State.takeWake
  repeat' split
  all_goals rfl

@[simp] theorem State.takeWake_c (s : State) : s.takeWake.c = s.c := by
  unfold State.takeWake
  repeat' split
  all_goals rfl

@[simp] theorem State.takeWake_d (s : State) : s.takeWake.d = s.d := by
  unfold State.takeWake
  repeat' split
  all_goals rfl

@[simp] theorem State.takeWake_e (s : State) : s.takeWake.e = s.e := by
  unfold State.takeWake
  repeat' split
  all_goals rfl

@[simp] theorem State.takeWake_h (s : State) : s.takeWake.h = s.h := by
  unfold State.takeWake
  repeat' split
  all_goals rfl

@[simp] theorem State.takeWake_l (s : State) : s.takeWake.l = s.l := by
  unfold State.takeWake
  repeat' split
  all_goals rfl

@[simp] theorem State.takeWake_f (s : State) : s.takeWake.f = s.f := by
  unfold State.takeWake
  repeat' split
  all_goals rfl

@[simp] theorem State.takeWake_sp (s : State) : s.takeWake.sp = s.sp := by
  unfold State.takeWake
  repeat' split
  all_goals rfl

@[simp] theorem State.takeWake_pc (s : State) : s.takeWake.pc = s.pc := by
  unfold State.takeWake
  repeat' split
  all_goals rfl

@[simp] theorem State.takeWake_ime (s : State) : s.takeWake.ime = s.ime := by
  unfold State.takeWake
  repeat' split
  all_goals rfl

@[simp] theorem State.takeWake_fault (s : State) : s.takeWake.fault = s.fault := by
  unfold State.takeWake
  repeat' split
  all_goals rfl

@[simp] theorem State.takeWake_rom (s : State) : s.takeWake.rom = s.rom := by
  unfold State.takeWake
  repeat' split
  all_goals rfl

@[simp] theorem State.takeWake_bankCount (s : State) : s.takeWake.bankCount = s.bankCount := by
  unfold State.takeWake
  repeat' split
  all_goals rfl

@[simp] theorem State.takeWake_currentIndex (s : State) : s.takeWake.currentIndex = s.currentIndex := by
  unfold State.takeWake
  repeat' split
  all_goals rfl

@[simp] theorem State.takeWake_romWritePolicy (s : State) : s.takeWake.romWritePolicy = s.romWritePolicy := by
  unfold State.takeWake
  repeat' split
  all_goals rfl

@[simp] theorem State.takeWake_stopLength (s : State) : s.takeWake.stopLength = s.stopLength := by
  unfold State.takeWake
  repeat' split
  all_goals rfl

@[simp] theorem State.takeWake_status (s : State) : s.takeWake.status = s.status := by
  unfold State.takeWake
  repeat' split
  all_goals rfl

@[simp] theorem State.takeWake_cycles (s : State) : s.takeWake.cycles = s.cycles := by
  unfold State.takeWake
  repeat' split
  all_goals rfl

@[simp] theorem State.takeWake_bus (s : State) : s.takeWake.bus = s.bus := by
  unfold State.takeWake
  repeat' split
  all_goals rfl

@[simp] theorem State.takeWake_extIn (s : State) : s.takeWake.extIn = s.extIn := by
  unfold State.takeWake
  repeat' split
  all_goals rfl


end Sys2Proof.Machine
end

