-- ==== Sys2Proof/Laws/Ops.lean ====
section
/-! SUPPORT. One law per shared operation, saying once everything it can do. Later proofs cite these and do not unfold the
operations. -/

namespace Sys2Proof.Laws

open Sys2Proof.Machine

/-! ### The bus -/

theorem memByte_rom (s : State) (x : Word) (h : isRom x = true) :
    s.memByte x = Memory.read s.rom (s.romOffset x) := by
  simp [State.memByte, h]

theorem memByte_ext (s : State) (x : Word) (h : isRom x = false) : s.memByte x = s.extByte x := by
  simp [State.memByte, h]

/-- What a write does to the ROM array (R74, R75). -/
theorem memWrite_rom (s : State) (x : Word) (v : Byte) :
    (s.memWrite x v).rom =
      if isRom x = true ∧ s.romWritePolicy = .store then Memory.write s.rom (s.romOffset x) v else s.rom := by
  unfold State.memWrite
  cases isRom x <;> cases s.romWritePolicy <;> rfl

/-- What a write puts on the bus (R74, R75): nothing for a ROM window under IGNORE. -/
theorem memWrite_bus (s : State) (x : Word) (v : Byte) :
    (s.memWrite x v).bus =
      if isRom x = true ∧ s.romWritePolicy = .ignore then s.bus else .write x v :: s.bus := by
  unfold State.memWrite
  cases isRom x <;> cases s.romWritePolicy <;> rfl

/-- The mux depends on the bank index alone. -/
theorem romOffset_congr {s t : State} (h : t.currentIndex = s.currentIndex) (x : Word) :
    t.romOffset x = s.romOffset x := by
  simp [State.romOffset, h]

/-- A ROM byte depends on the ROM array and the bank index alone. -/
theorem memByte_congr {s t : State} (hr : t.rom = s.rom) (hi : t.currentIndex = s.currentIndex) (x : Word)
    (hx : isRom x = true) : t.memByte x = s.memByte x := by
  rw [memByte_rom t x hx, memByte_rom s x hx, hr, romOffset_congr hi]

/-- The mux stays inside the image (R72). -/
theorem romOffset_lt {s : State} (h : s.BankOk) (x : Word) (hx : isRom x = true) :
    s.romOffset x < s.bankCount * 16384 := by
  obtain ⟨h0, hi⟩ := h
  have hx' : x.toNat ≤ 0x7FFF := of_decide_eq_true hx
  unfold State.romOffset
  split
  · omega
  · rw [hi]
    split <;> omega

/-- Every bus access keeps the ROM list canonical and inside the image. -/
theorem memWrite_romOk {s : State} (hb : s.BankOk) (hr : s.RomOk) (x : Word) (v : Byte) : (s.memWrite x v).RomOk := by
  refine ⟨?_, ?_⟩
  · rw [memWrite_rom]
    split
    · exact wf_write _ _ _ hr.1
    · exact hr.1
  · intro cell hc
    rw [memWrite_rom] at hc
    rw [State.memWrite_bankCount]
    split at hc
    · rename_i h
      rcases mem_write _ _ _ _ hc with rfl | hc
      · exact romOffset_lt hb x h.1
      · exact hr.2 cell hc
    · exact hr.2 cell hc

/-! ### The stack -/

/-- A write does not depend on SP. -/
theorem memWrite_with_sp (s : State) (w x : Word) (v : Byte) :
    ({ s with sp := w }).memWrite x v = { s.memWrite x v with sp := w } := by
  cases hx : isRom x <;> cases hp : s.romWritePolicy <;> simp [State.memWrite, State.romOffset, hx, hp]

/-- A push (R96): the high byte to SP-1, the low byte to SP-2, and SP goes down by two. -/
theorem push16_eq (s : State) (v : Word) :
    s.push16 v =
      { (s.memWrite (s.sp - 1) (hiByte v)).memWrite (s.sp - 1 - 1) (loByte v) with sp := s.sp - 1 - 1 } := by
  simp only [State.push16, memWrite_with_sp]

theorem pop16_fst (s : State) :
    s.pop16.1 = concat ({ s.afterRead s.sp with sp := s.sp + 1 }.memByte (s.sp + 1)) (s.memByte s.sp) := rfl

theorem pop16_snd (s : State) :
    s.pop16.2 = { ({ s.afterRead s.sp with sp := s.sp + 1 }).afterRead (s.sp + 1) with sp := s.sp + 1 + 1 } := rfl

/-! ### Loads and stores -/

theorem load8_eq (dst : Operand8) (src : Source8) (n : Nat) (s : State) :
    load8 dst src n s = .next (((s.readSource src).2.writeOperand dst (s.readSource src).1).report .ok n) := rfl

theorem load16_eq (dst : Reg16) (v : Word) (n : Nat) (s : State) :
    load16 dst v n s = .next ((s.setReg16 dst v).report .ok n) := rfl

theorem storeSP_eq (x : Word) (n : Nat) (s : State) :
    storeSP x n s = .next (((s.memWrite x (loByte s.sp)).memWrite (x + 1) (hiByte s.sp)).report .ok n) := rfl

theorem loadHLSP_eq (e : Byte) (n : Nat) (s : State) :
    loadHLSP e n s = .next (({ s.setHL (spAddE8 s.sp e).1 with f := (spAddE8 s.sp e).2 }).report .ok n) := rfl

theorem pushReg_eq (r : StackReg) (n : Nat) (s : State) :
    pushReg r n s = .next ((s.push16 (s.stackReg r)).report .ok n) := rfl

theorem popReg_eq (r : StackReg) (n : Nat) (s : State) :
    popReg r n s = .next ((s.pop16.2.setStackReg r s.pop16.1).report .ok n) := rfl

/-! ### Arithmetic and logic -/

theorem alu_eq (op : AluOp) (src : Source8) (n : Nat) (s : State) :
    alu op src n s =
      .next (({ (s.readSource src).2 with
        a := (op.apply (s.readSource src).2.a (s.readSource src).1 (s.readSource src).2.f).1
        f := (op.apply (s.readSource src).2.a (s.readSource src).1 (s.readSource src).2.f).2 }).report .ok n) := rfl

theorem incOperand_eq (o : Operand8) (n : Nat) (s : State) :
    incOperand o n s =
      .next (({ (s.readOperand o).2.writeOperand o (inc8 (s.readOperand o).1 (s.readOperand o).2.f).1 with
        f := (inc8 (s.readOperand o).1 (s.readOperand o).2.f).2 }).report .ok n) := rfl

theorem decOperand_eq (o : Operand8) (n : Nat) (s : State) :
    decOperand o n s =
      .next (({ (s.readOperand o).2.writeOperand o (dec8 (s.readOperand o).1 (s.readOperand o).2.f).1 with
        f := (dec8 (s.readOperand o).1 (s.readOperand o).2.f).2 }).report .ok n) := rfl

theorem daaAcc_eq (n : Nat) (s : State) :
    daaAcc n s = .next (({ s with a := (daa s.a s.f).1, f := (daa s.a s.f).2 }).report .ok n) := rfl

theorem cplAcc_eq (n : Nat) (s : State) :
    cplAcc n s = .next (({ s with a := ~~~s.a, f := { s.f with n := true, h := true } }).report .ok n) := rfl

theorem setCarry_eq (n : Nat) (s : State) :
    setCarry n s = .next (({ s with f := { s.f with n := false, h := false, c := true } }).report .ok n) := rfl

theorem complementCarry_eq (n : Nat) (s : State) :
    complementCarry n s = .next (({ s with f := { s.f with n := false, h := false, c := !s.f.c } }).report .ok n) := rfl

theorem incReg16_eq (r : Reg16) (n : Nat) (s : State) :
    incReg16 r n s = .next ((s.setReg16 r (s.reg16 r + 1)).report .ok n) := rfl

theorem decReg16_eq (r : Reg16) (n : Nat) (s : State) :
    decReg16 r n s = .next ((s.setReg16 r (s.reg16 r - 1)).report .ok n) := rfl

theorem addHLReg16_eq (r : Reg16) (n : Nat) (s : State) :
    addHLReg16 r n s =
      .next (({ s.setHL (addHL s.hl (s.reg16 r) s.f).1 with f := (addHL s.hl (s.reg16 r) s.f).2 }).report .ok n) := rfl

theorem addSP_eq (e : Byte) (n : Nat) (s : State) :
    addSP e n s = .next (({ s with sp := (spAddE8 s.sp e).1, f := (spAddE8 s.sp e).2 }).report .ok n) := rfl

/-! ### Rotates, shifts and bits -/

theorem rotateAcc_eq (op : ShiftOp) (n : Nat) (s : State) :
    rotateAcc op n s =
      .next (({ s with a := (op.apply s.a s.f.c).1, f := accRotateFlags (op.apply s.a s.f.c).2 }).report .ok n) := rfl

theorem shiftOperand_eq (op : ShiftOp) (o : Operand8) (n : Nat) (s : State) :
    shiftOperand op o n s =
      .next (({ (s.readOperand o).2.writeOperand o (op.apply (s.readOperand o).1 (s.readOperand o).2.f.c).1 with
        f := shiftFlags (op.apply (s.readOperand o).1 (s.readOperand o).2.f.c).1
          (op.apply (s.readOperand o).1 (s.readOperand o).2.f.c).2 }).report .ok n) := rfl

theorem bitTest_eq (u : Nat) (o : Operand8) (n : Nat) (s : State) :
    bitTest u o n s =
      .next (({ (s.readOperand o).2 with
        f := bitFlags (s.readOperand o).1 u (s.readOperand o).2.f }).report .ok n) := rfl

theorem bitClear_eq (u : Nat) (o : Operand8) (n : Nat) (s : State) :
    bitClear u o n s =
      .next (((s.readOperand o).2.writeOperand o (clearBit (s.readOperand o).1 u)).report .ok n) := rfl

theorem bitSet_eq (u : Nat) (o : Operand8) (n : Nat) (s : State) :
    bitSet u o n s =
      .next (((s.readOperand o).2.writeOperand o (setBit (s.readOperand o).1 u)).report .ok n) := rfl

/-! ### Control transfer -/

theorem jump_eq (k : Cond) (x : Word) (m n : Nat) (s : State) :
    jump k x m n s = .next (if s.cond k then ({ s with pc := x }).report .ok m else s.report .ok n) := by
  unfold jump
  split <;> rfl

theorem jumpRelative_eq (k : Cond) (e : Byte) (m n : Nat) (s : State) :
    jumpRelative k e m n s =
      .next (if s.cond k then ({ s with pc := s.pc + sext16 e }).report .ok m else s.report .ok n) := by
  unfold jumpRelative
  split <;> rfl

theorem call_eq (k : Cond) (x : Word) (m n : Nat) (s : State) :
    call k x m n s = .next (if s.cond k then ({ s.push16 s.pc with pc := x }).report .ok m else s.report .ok n) := by
  unfold call
  split <;> rfl

theorem ret_eq (k : Cond) (m n : Nat) (s : State) :
    ret k m n s = .next (if s.cond k then ({ s.pop16.2 with pc := s.pop16.1 }).report .ok m else s.report .ok n) := by
  unfold ret
  split <;> rfl

theorem retEnable_eq (n : Nat) (s : State) :
    retEnable n s = .next (({ s.pop16.2 with pc := s.pop16.1, ime := true }).report .ok n) := rfl

/-! ### System -/

theorem enterHalt_eq (n : Nat) (s : State) : enterHalt n s = .next (({ s with halted := true }).report .ok n) := rfl

theorem enterStop_eq (n : Nat) (s : State) : enterStop n s = .next (({ s with stopped := true }).report .ok n) := rfl

theorem writeIme_eq (v : Bool) (n : Nat) (s : State) : writeIme v n s = .next (({ s with ime := v }).report .ok n) := rfl

/-- A prefixed entry answers a next state: one of the four groups of R129. -/
theorem prefixedEntry_cases (b : Byte) (s : State) :
    (∃ op o n, prefixedEntry b s = shiftOperand op o n s) ∨ (∃ u o n, prefixedEntry b s = bitTest u o n s) ∨
    (∃ u o n, prefixedEntry b s = bitClear u o n s) ∨ (∃ u o n, prefixedEntry b s = bitSet u o n s) := by
  unfold prefixedEntry
  dsimp only
  split
  · exact .inl ⟨_, _, _, rfl⟩
  · exact .inr (.inl ⟨_, _, _, rfl⟩)
  · exact .inr (.inr (.inl ⟨_, _, _, rfl⟩))
  · exact .inr (.inr (.inr ⟨_, _, _, rfl⟩))

end Sys2Proof.Laws
end

