-- ==== Sys2Proof/Laws/Exec.lean ====
section
/-! SUPPORT. Everything an instruction can do, once: its meaning is one of the shared operations, so a rule about all
instructions is a case analysis over these and not over the constructors. -/

namespace Sys2Proof.Laws

open Sys2Proof.Machine

/-- `Does s r`: the result `r` is that of a shared operation in `s`. -/
inductive Does (s : State) : Result → Prop where
  | load8 (dst : Operand8) (src : Source8) (n : Nat) : Does s (load8 dst src n s)
  | load16 (dst : Reg16) (v : Word) (n : Nat) : Does s (load16 dst v n s)
  | storeSP (x : Word) (n : Nat) : Does s (storeSP x n s)
  | loadHLSP (e : Byte) (n : Nat) : Does s (loadHLSP e n s)
  | pushReg (r : StackReg) (n : Nat) : Does s (pushReg r n s)
  | popReg (r : StackReg) (n : Nat) : Does s (popReg r n s)
  | alu (op : AluOp) (src : Source8) (n : Nat) : Does s (alu op src n s)
  | incOperand (o : Operand8) (n : Nat) : Does s (incOperand o n s)
  | decOperand (o : Operand8) (n : Nat) : Does s (decOperand o n s)
  | daaAcc (n : Nat) : Does s (daaAcc n s)
  | cplAcc (n : Nat) : Does s (cplAcc n s)
  | setCarry (n : Nat) : Does s (setCarry n s)
  | complementCarry (n : Nat) : Does s (complementCarry n s)
  | incReg16 (r : Reg16) (n : Nat) : Does s (incReg16 r n s)
  | decReg16 (r : Reg16) (n : Nat) : Does s (decReg16 r n s)
  | addHLReg16 (r : Reg16) (n : Nat) : Does s (addHLReg16 r n s)
  | addSP (e : Byte) (n : Nat) : Does s (addSP e n s)
  | rotateAcc (op : ShiftOp) (n : Nat) : Does s (rotateAcc op n s)
  | shiftOperand (op : ShiftOp) (o : Operand8) (n : Nat) : Does s (shiftOperand op o n s)
  | bitTest (u : Nat) (o : Operand8) (n : Nat) : Does s (bitTest u o n s)
  | bitClear (u : Nat) (o : Operand8) (n : Nat) : Does s (bitClear u o n s)
  | bitSet (u : Nat) (o : Operand8) (n : Nat) : Does s (bitSet u o n s)
  | jump (k : Cond) (x : Word) (m n : Nat) : Does s (jump k x m n s)
  | jumpRelative (k : Cond) (e : Byte) (m n : Nat) : Does s (jumpRelative k e m n s)
  | call (k : Cond) (x : Word) (m n : Nat) : Does s (call k x m n s)
  | ret (k : Cond) (m n : Nat) : Does s (ret k m n s)
  | retEnable (n : Nat) : Does s (retEnable n s)
  | complete (n : Nat) : Does s (s.complete n)
  | enterHalt (n : Nat) : Does s (enterHalt n s)
  | enterStop (n : Nat) : Does s (enterStop n s)
  | writeIme (v : Bool) (n : Nat) : Does s (writeIme v n s)
  | raiseIllegalOpcode (op : Byte) : Does s (.next (s.raiseIllegalOpcode op))

/-- A prefixed entry is one of the four groups of R129. -/
theorem prefixedEntry_does (b : Byte) (s : State) : Does s (prefixedEntry b s) := by
  rcases prefixedEntry_cases b s with ⟨op, o, n, h⟩ | ⟨u, o, n, h⟩ | ⟨u, o, n, h⟩ | ⟨u, o, n, h⟩ <;> rw [h]
  · exact .shiftOperand op o n
  · exact .bitTest u o n
  · exact .bitClear u o n
  · exact .bitSet u o n

/-- Every instruction does one of them. -/
theorem exec_does (i : Instr) (s : State) : Does s (exec i s) :=
  match i with
  | .ld_b_b => .load8 (.reg .b) (.opnd (.reg .b)) 4
  | .ld_b_c => .load8 (.reg .b) (.opnd (.reg .c)) 4
  | .ld_b_d => .load8 (.reg .b) (.opnd (.reg .d)) 4
  | .ld_b_e => .load8 (.reg .b) (.opnd (.reg .e)) 4
  | .ld_b_h => .load8 (.reg .b) (.opnd (.reg .h)) 4
  | .ld_b_l => .load8 (.reg .b) (.opnd (.reg .l)) 4
  | .ld_b_a => .load8 (.reg .b) (.opnd (.reg .a)) 4
  | .ld_c_b => .load8 (.reg .c) (.opnd (.reg .b)) 4
  | .ld_c_c => .load8 (.reg .c) (.opnd (.reg .c)) 4
  | .ld_c_d => .load8 (.reg .c) (.opnd (.reg .d)) 4
  | .ld_c_e => .load8 (.reg .c) (.opnd (.reg .e)) 4
  | .ld_c_h => .load8 (.reg .c) (.opnd (.reg .h)) 4
  | .ld_c_l => .load8 (.reg .c) (.opnd (.reg .l)) 4
  | .ld_c_a => .load8 (.reg .c) (.opnd (.reg .a)) 4
  | .ld_d_b => .load8 (.reg .d) (.opnd (.reg .b)) 4
  | .ld_d_c => .load8 (.reg .d) (.opnd (.reg .c)) 4
  | .ld_d_d => .load8 (.reg .d) (.opnd (.reg .d)) 4
  | .ld_d_e => .load8 (.reg .d) (.opnd (.reg .e)) 4
  | .ld_d_h => .load8 (.reg .d) (.opnd (.reg .h)) 4
  | .ld_d_l => .load8 (.reg .d) (.opnd (.reg .l)) 4
  | .ld_d_a => .load8 (.reg .d) (.opnd (.reg .a)) 4
  | .ld_e_b => .load8 (.reg .e) (.opnd (.reg .b)) 4
  | .ld_e_c => .load8 (.reg .e) (.opnd (.reg .c)) 4
  | .ld_e_d => .load8 (.reg .e) (.opnd (.reg .d)) 4
  | .ld_e_e => .load8 (.reg .e) (.opnd (.reg .e)) 4
  | .ld_e_h => .load8 (.reg .e) (.opnd (.reg .h)) 4
  | .ld_e_l => .load8 (.reg .e) (.opnd (.reg .l)) 4
  | .ld_e_a => .load8 (.reg .e) (.opnd (.reg .a)) 4
  | .ld_h_b => .load8 (.reg .h) (.opnd (.reg .b)) 4
  | .ld_h_c => .load8 (.reg .h) (.opnd (.reg .c)) 4
  | .ld_h_d => .load8 (.reg .h) (.opnd (.reg .d)) 4
  | .ld_h_e => .load8 (.reg .h) (.opnd (.reg .e)) 4
  | .ld_h_h => .load8 (.reg .h) (.opnd (.reg .h)) 4
  | .ld_h_l => .load8 (.reg .h) (.opnd (.reg .l)) 4
  | .ld_h_a => .load8 (.reg .h) (.opnd (.reg .a)) 4
  | .ld_l_b => .load8 (.reg .l) (.opnd (.reg .b)) 4
  | .ld_l_c => .load8 (.reg .l) (.opnd (.reg .c)) 4
  | .ld_l_d => .load8 (.reg .l) (.opnd (.reg .d)) 4
  | .ld_l_e => .load8 (.reg .l) (.opnd (.reg .e)) 4
  | .ld_l_h => .load8 (.reg .l) (.opnd (.reg .h)) 4
  | .ld_l_l => .load8 (.reg .l) (.opnd (.reg .l)) 4
  | .ld_l_a => .load8 (.reg .l) (.opnd (.reg .a)) 4
  | .ld_a_b => .load8 (.reg .a) (.opnd (.reg .b)) 4
  | .ld_a_c => .load8 (.reg .a) (.opnd (.reg .c)) 4
  | .ld_a_d => .load8 (.reg .a) (.opnd (.reg .d)) 4
  | .ld_a_e => .load8 (.reg .a) (.opnd (.reg .e)) 4
  | .ld_a_h => .load8 (.reg .a) (.opnd (.reg .h)) 4
  | .ld_a_l => .load8 (.reg .a) (.opnd (.reg .l)) 4
  | .ld_a_a => .load8 (.reg .a) (.opnd (.reg .a)) 4
  | .ld_b_atHL => .load8 (.reg .b) (.opnd (.mem .atHL)) 8
  | .ld_c_atHL => .load8 (.reg .c) (.opnd (.mem .atHL)) 8
  | .ld_d_atHL => .load8 (.reg .d) (.opnd (.mem .atHL)) 8
  | .ld_e_atHL => .load8 (.reg .e) (.opnd (.mem .atHL)) 8
  | .ld_h_atHL => .load8 (.reg .h) (.opnd (.mem .atHL)) 8
  | .ld_l_atHL => .load8 (.reg .l) (.opnd (.mem .atHL)) 8
  | .ld_a_atHL => .load8 (.reg .a) (.opnd (.mem .atHL)) 8
  | .ld_atHL_b => .load8 (.mem .atHL) (.opnd (.reg .b)) 8
  | .ld_atHL_c => .load8 (.mem .atHL) (.opnd (.reg .c)) 8
  | .ld_atHL_d => .load8 (.mem .atHL) (.opnd (.reg .d)) 8
  | .ld_atHL_e => .load8 (.mem .atHL) (.opnd (.reg .e)) 8
  | .ld_atHL_h => .load8 (.mem .atHL) (.opnd (.reg .h)) 8
  | .ld_atHL_l => .load8 (.mem .atHL) (.opnd (.reg .l)) 8
  | .ld_atHL_a => .load8 (.mem .atHL) (.opnd (.reg .a)) 8
  | .ld_b_n8 n => .load8 (.reg .b) (.imm8 n) 8
  | .ld_c_n8 n => .load8 (.reg .c) (.imm8 n) 8
  | .ld_d_n8 n => .load8 (.reg .d) (.imm8 n) 8
  | .ld_e_n8 n => .load8 (.reg .e) (.imm8 n) 8
  | .ld_h_n8 n => .load8 (.reg .h) (.imm8 n) 8
  | .ld_l_n8 n => .load8 (.reg .l) (.imm8 n) 8
  | .ld_a_n8 n => .load8 (.reg .a) (.imm8 n) 8
  | .ld_atHL_n8 n => .load8 (.mem .atHL) (.imm8 n) 12
  | .ld_a_atBC => .load8 (.reg .a) (.opnd (.mem .atBC)) 8
  | .ld_a_atDE => .load8 (.reg .a) (.opnd (.mem .atDE)) 8
  | .ld_atBC_a => .load8 (.mem .atBC) (.opnd (.reg .a)) 8
  | .ld_atDE_a => .load8 (.mem .atDE) (.opnd (.reg .a)) 8
  | .ld_a_atHLInc => .load8 (.reg .a) (.opnd (.mem .atHLInc)) 8
  | .ld_a_atHLDec => .load8 (.reg .a) (.opnd (.mem .atHLDec)) 8
  | .ld_atHLInc_a => .load8 (.mem .atHLInc) (.opnd (.reg .a)) 8
  | .ld_atHLDec_a => .load8 (.mem .atHLDec) (.opnd (.reg .a)) 8
  | .ld_a_atA16 addr => .load8 (.reg .a) (.opnd (.mem (.atA16 addr))) 16
  | .ld_atA16_a addr => .load8 (.mem (.atA16 addr)) (.opnd (.reg .a)) 16
  | .ldh_a_atA8 o => .load8 (.reg .a) (.opnd (.mem (.atA8 o))) 12
  | .ldh_atA8_a o => .load8 (.mem (.atA8 o)) (.opnd (.reg .a)) 12
  | .ld_a_atC => .load8 (.reg .a) (.opnd (.mem .atC)) 8
  | .ld_atC_a => .load8 (.mem .atC) (.opnd (.reg .a)) 8
  | .ld_bc_n16 n => .load16 .bc n 12
  | .ld_de_n16 n => .load16 .de n 12
  | .ld_hl_n16 n => .load16 .hl n 12
  | .ld_sp_n16 n => .load16 .sp n 12
  | .ld_atA16_sp addr => .storeSP addr 20
  | .ld_sp_hl => .load16 .sp s.hl 8
  | .ld_hl_spPlusE8 e => .loadHLSP e 12
  | .push_bc => .pushReg .bc 16
  | .push_de => .pushReg .de 16
  | .push_hl => .pushReg .hl 16
  | .push_af => .pushReg .af 16
  | .pop_bc => .popReg .bc 12
  | .pop_de => .popReg .de 12
  | .pop_hl => .popReg .hl 12
  | .pop_af => .popReg .af 12
  | .add_a_b => .alu .add (.opnd (.reg .b)) 4
  | .add_a_c => .alu .add (.opnd (.reg .c)) 4
  | .add_a_d => .alu .add (.opnd (.reg .d)) 4
  | .add_a_e => .alu .add (.opnd (.reg .e)) 4
  | .add_a_h => .alu .add (.opnd (.reg .h)) 4
  | .add_a_l => .alu .add (.opnd (.reg .l)) 4
  | .add_a_atHL => .alu .add (.opnd (.mem .atHL)) 8
  | .add_a_a => .alu .add (.opnd (.reg .a)) 4
  | .add_a_n8 n => .alu .add (.imm8 n) 8
  | .adc_a_b => .alu .adc (.opnd (.reg .b)) 4
  | .adc_a_c => .alu .adc (.opnd (.reg .c)) 4
  | .adc_a_d => .alu .adc (.opnd (.reg .d)) 4
  | .adc_a_e => .alu .adc (.opnd (.reg .e)) 4
  | .adc_a_h => .alu .adc (.opnd (.reg .h)) 4
  | .adc_a_l => .alu .adc (.opnd (.reg .l)) 4
  | .adc_a_atHL => .alu .adc (.opnd (.mem .atHL)) 8
  | .adc_a_a => .alu .adc (.opnd (.reg .a)) 4
  | .adc_a_n8 n => .alu .adc (.imm8 n) 8
  | .sub_a_b => .alu .sub (.opnd (.reg .b)) 4
  | .sub_a_c => .alu .sub (.opnd (.reg .c)) 4
  | .sub_a_d => .alu .sub (.opnd (.reg .d)) 4
  | .sub_a_e => .alu .sub (.opnd (.reg .e)) 4
  | .sub_a_h => .alu .sub (.opnd (.reg .h)) 4
  | .sub_a_l => .alu .sub (.opnd (.reg .l)) 4
  | .sub_a_atHL => .alu .sub (.opnd (.mem .atHL)) 8
  | .sub_a_a => .alu .sub (.opnd (.reg .a)) 4
  | .sub_a_n8 n => .alu .sub (.imm8 n) 8
  | .sbc_a_b => .alu .sbc (.opnd (.reg .b)) 4
  | .sbc_a_c => .alu .sbc (.opnd (.reg .c)) 4
  | .sbc_a_d => .alu .sbc (.opnd (.reg .d)) 4
  | .sbc_a_e => .alu .sbc (.opnd (.reg .e)) 4
  | .sbc_a_h => .alu .sbc (.opnd (.reg .h)) 4
  | .sbc_a_l => .alu .sbc (.opnd (.reg .l)) 4
  | .sbc_a_atHL => .alu .sbc (.opnd (.mem .atHL)) 8
  | .sbc_a_a => .alu .sbc (.opnd (.reg .a)) 4
  | .sbc_a_n8 n => .alu .sbc (.imm8 n) 8
  | .and_a_b => .alu .and (.opnd (.reg .b)) 4
  | .and_a_c => .alu .and (.opnd (.reg .c)) 4
  | .and_a_d => .alu .and (.opnd (.reg .d)) 4
  | .and_a_e => .alu .and (.opnd (.reg .e)) 4
  | .and_a_h => .alu .and (.opnd (.reg .h)) 4
  | .and_a_l => .alu .and (.opnd (.reg .l)) 4
  | .and_a_atHL => .alu .and (.opnd (.mem .atHL)) 8
  | .and_a_a => .alu .and (.opnd (.reg .a)) 4
  | .and_a_n8 n => .alu .and (.imm8 n) 8
  | .xor_a_b => .alu .xor (.opnd (.reg .b)) 4
  | .xor_a_c => .alu .xor (.opnd (.reg .c)) 4
  | .xor_a_d => .alu .xor (.opnd (.reg .d)) 4
  | .xor_a_e => .alu .xor (.opnd (.reg .e)) 4
  | .xor_a_h => .alu .xor (.opnd (.reg .h)) 4
  | .xor_a_l => .alu .xor (.opnd (.reg .l)) 4
  | .xor_a_atHL => .alu .xor (.opnd (.mem .atHL)) 8
  | .xor_a_a => .alu .xor (.opnd (.reg .a)) 4
  | .xor_a_n8 n => .alu .xor (.imm8 n) 8
  | .or_a_b => .alu .or (.opnd (.reg .b)) 4
  | .or_a_c => .alu .or (.opnd (.reg .c)) 4
  | .or_a_d => .alu .or (.opnd (.reg .d)) 4
  | .or_a_e => .alu .or (.opnd (.reg .e)) 4
  | .or_a_h => .alu .or (.opnd (.reg .h)) 4
  | .or_a_l => .alu .or (.opnd (.reg .l)) 4
  | .or_a_atHL => .alu .or (.opnd (.mem .atHL)) 8
  | .or_a_a => .alu .or (.opnd (.reg .a)) 4
  | .or_a_n8 n => .alu .or (.imm8 n) 8
  | .cp_a_b => .alu .cp (.opnd (.reg .b)) 4
  | .cp_a_c => .alu .cp (.opnd (.reg .c)) 4
  | .cp_a_d => .alu .cp (.opnd (.reg .d)) 4
  | .cp_a_e => .alu .cp (.opnd (.reg .e)) 4
  | .cp_a_h => .alu .cp (.opnd (.reg .h)) 4
  | .cp_a_l => .alu .cp (.opnd (.reg .l)) 4
  | .cp_a_atHL => .alu .cp (.opnd (.mem .atHL)) 8
  | .cp_a_a => .alu .cp (.opnd (.reg .a)) 4
  | .cp_a_n8 n => .alu .cp (.imm8 n) 8
  | .inc_b => .incOperand (.reg .b) 4
  | .inc_c => .incOperand (.reg .c) 4
  | .inc_d => .incOperand (.reg .d) 4
  | .inc_e => .incOperand (.reg .e) 4
  | .inc_h => .incOperand (.reg .h) 4
  | .inc_l => .incOperand (.reg .l) 4
  | .inc_a => .incOperand (.reg .a) 4
  | .inc_atHL => .incOperand (.mem .atHL) 12
  | .dec_b => .decOperand (.reg .b) 4
  | .dec_c => .decOperand (.reg .c) 4
  | .dec_d => .decOperand (.reg .d) 4
  | .dec_e => .decOperand (.reg .e) 4
  | .dec_h => .decOperand (.reg .h) 4
  | .dec_l => .decOperand (.reg .l) 4
  | .dec_a => .decOperand (.reg .a) 4
  | .dec_atHL => .decOperand (.mem .atHL) 12
  | .daa => .daaAcc 4
  | .cpl => .cplAcc 4
  | .scf => .setCarry 4
  | .ccf => .complementCarry 4
  | .inc_bc => .incReg16 .bc 8
  | .inc_de => .incReg16 .de 8
  | .inc_hl => .incReg16 .hl 8
  | .inc_sp => .incReg16 .sp 8
  | .dec_bc => .decReg16 .bc 8
  | .dec_de => .decReg16 .de 8
  | .dec_hl => .decReg16 .hl 8
  | .dec_sp => .decReg16 .sp 8
  | .add_hl_bc => .addHLReg16 .bc 8
  | .add_hl_de => .addHLReg16 .de 8
  | .add_hl_hl => .addHLReg16 .hl 8
  | .add_hl_sp => .addHLReg16 .sp 8
  | .add_sp_e8 e => .addSP e 16
  | .rlca => .rotateAcc .rlc 4
  | .rrca => .rotateAcc .rrc 4
  | .rla => .rotateAcc .rl 4
  | .rra => .rotateAcc .rr 4
  | .rlc_b => .shiftOperand .rlc (.reg .b) 8
  | .rlc_c => .shiftOperand .rlc (.reg .c) 8
  | .rlc_d => .shiftOperand .rlc (.reg .d) 8
  | .rlc_e => .shiftOperand .rlc (.reg .e) 8
  | .rlc_h => .shiftOperand .rlc (.reg .h) 8
  | .rlc_l => .shiftOperand .rlc (.reg .l) 8
  | .rlc_atHL => .shiftOperand .rlc (.mem .atHL) 16
  | .rlc_a => .shiftOperand .rlc (.reg .a) 8
  | .rrc_b => .shiftOperand .rrc (.reg .b) 8
  | .rrc_c => .shiftOperand .rrc (.reg .c) 8
  | .rrc_d => .shiftOperand .rrc (.reg .d) 8
  | .rrc_e => .shiftOperand .rrc (.reg .e) 8
  | .rrc_h => .shiftOperand .rrc (.reg .h) 8
  | .rrc_l => .shiftOperand .rrc (.reg .l) 8
  | .rrc_atHL => .shiftOperand .rrc (.mem .atHL) 16
  | .rrc_a => .shiftOperand .rrc (.reg .a) 8
  | .rl_b => .shiftOperand .rl (.reg .b) 8
  | .rl_c => .shiftOperand .rl (.reg .c) 8
  | .rl_d => .shiftOperand .rl (.reg .d) 8
  | .rl_e => .shiftOperand .rl (.reg .e) 8
  | .rl_h => .shiftOperand .rl (.reg .h) 8
  | .rl_l => .shiftOperand .rl (.reg .l) 8
  | .rl_atHL => .shiftOperand .rl (.mem .atHL) 16
  | .rl_a => .shiftOperand .rl (.reg .a) 8
  | .rr_b => .shiftOperand .rr (.reg .b) 8
  | .rr_c => .shiftOperand .rr (.reg .c) 8
  | .rr_d => .shiftOperand .rr (.reg .d) 8
  | .rr_e => .shiftOperand .rr (.reg .e) 8
  | .rr_h => .shiftOperand .rr (.reg .h) 8
  | .rr_l => .shiftOperand .rr (.reg .l) 8
  | .rr_atHL => .shiftOperand .rr (.mem .atHL) 16
  | .rr_a => .shiftOperand .rr (.reg .a) 8
  | .sla_b => .shiftOperand .sla (.reg .b) 8
  | .sla_c => .shiftOperand .sla (.reg .c) 8
  | .sla_d => .shiftOperand .sla (.reg .d) 8
  | .sla_e => .shiftOperand .sla (.reg .e) 8
  | .sla_h => .shiftOperand .sla (.reg .h) 8
  | .sla_l => .shiftOperand .sla (.reg .l) 8
  | .sla_atHL => .shiftOperand .sla (.mem .atHL) 16
  | .sla_a => .shiftOperand .sla (.reg .a) 8
  | .sra_b => .shiftOperand .sra (.reg .b) 8
  | .sra_c => .shiftOperand .sra (.reg .c) 8
  | .sra_d => .shiftOperand .sra (.reg .d) 8
  | .sra_e => .shiftOperand .sra (.reg .e) 8
  | .sra_h => .shiftOperand .sra (.reg .h) 8
  | .sra_l => .shiftOperand .sra (.reg .l) 8
  | .sra_atHL => .shiftOperand .sra (.mem .atHL) 16
  | .sra_a => .shiftOperand .sra (.reg .a) 8
  | .swap_b => .shiftOperand .swap (.reg .b) 8
  | .swap_c => .shiftOperand .swap (.reg .c) 8
  | .swap_d => .shiftOperand .swap (.reg .d) 8
  | .swap_e => .shiftOperand .swap (.reg .e) 8
  | .swap_h => .shiftOperand .swap (.reg .h) 8
  | .swap_l => .shiftOperand .swap (.reg .l) 8
  | .swap_atHL => .shiftOperand .swap (.mem .atHL) 16
  | .swap_a => .shiftOperand .swap (.reg .a) 8
  | .srl_b => .shiftOperand .srl (.reg .b) 8
  | .srl_c => .shiftOperand .srl (.reg .c) 8
  | .srl_d => .shiftOperand .srl (.reg .d) 8
  | .srl_e => .shiftOperand .srl (.reg .e) 8
  | .srl_h => .shiftOperand .srl (.reg .h) 8
  | .srl_l => .shiftOperand .srl (.reg .l) 8
  | .srl_atHL => .shiftOperand .srl (.mem .atHL) 16
  | .srl_a => .shiftOperand .srl (.reg .a) 8
  | .bit_0_b => .bitTest 0 (.reg .b) 8
  | .bit_0_c => .bitTest 0 (.reg .c) 8
  | .bit_0_d => .bitTest 0 (.reg .d) 8
  | .bit_0_e => .bitTest 0 (.reg .e) 8
  | .bit_0_h => .bitTest 0 (.reg .h) 8
  | .bit_0_l => .bitTest 0 (.reg .l) 8
  | .bit_0_atHL => .bitTest 0 (.mem .atHL) 12
  | .bit_0_a => .bitTest 0 (.reg .a) 8
  | .bit_1_b => .bitTest 1 (.reg .b) 8
  | .bit_1_c => .bitTest 1 (.reg .c) 8
  | .bit_1_d => .bitTest 1 (.reg .d) 8
  | .bit_1_e => .bitTest 1 (.reg .e) 8
  | .bit_1_h => .bitTest 1 (.reg .h) 8
  | .bit_1_l => .bitTest 1 (.reg .l) 8
  | .bit_1_atHL => .bitTest 1 (.mem .atHL) 12
  | .bit_1_a => .bitTest 1 (.reg .a) 8
  | .bit_2_b => .bitTest 2 (.reg .b) 8
  | .bit_2_c => .bitTest 2 (.reg .c) 8
  | .bit_2_d => .bitTest 2 (.reg .d) 8
  | .bit_2_e => .bitTest 2 (.reg .e) 8
  | .bit_2_h => .bitTest 2 (.reg .h) 8
  | .bit_2_l => .bitTest 2 (.reg .l) 8
  | .bit_2_atHL => .bitTest 2 (.mem .atHL) 12
  | .bit_2_a => .bitTest 2 (.reg .a) 8
  | .bit_3_b => .bitTest 3 (.reg .b) 8
  | .bit_3_c => .bitTest 3 (.reg .c) 8
  | .bit_3_d => .bitTest 3 (.reg .d) 8
  | .bit_3_e => .bitTest 3 (.reg .e) 8
  | .bit_3_h => .bitTest 3 (.reg .h) 8
  | .bit_3_l => .bitTest 3 (.reg .l) 8
  | .bit_3_atHL => .bitTest 3 (.mem .atHL) 12
  | .bit_3_a => .bitTest 3 (.reg .a) 8
  | .bit_4_b => .bitTest 4 (.reg .b) 8
  | .bit_4_c => .bitTest 4 (.reg .c) 8
  | .bit_4_d => .bitTest 4 (.reg .d) 8
  | .bit_4_e => .bitTest 4 (.reg .e) 8
  | .bit_4_h => .bitTest 4 (.reg .h) 8
  | .bit_4_l => .bitTest 4 (.reg .l) 8
  | .bit_4_atHL => .bitTest 4 (.mem .atHL) 12
  | .bit_4_a => .bitTest 4 (.reg .a) 8
  | .bit_5_b => .bitTest 5 (.reg .b) 8
  | .bit_5_c => .bitTest 5 (.reg .c) 8
  | .bit_5_d => .bitTest 5 (.reg .d) 8
  | .bit_5_e => .bitTest 5 (.reg .e) 8
  | .bit_5_h => .bitTest 5 (.reg .h) 8
  | .bit_5_l => .bitTest 5 (.reg .l) 8
  | .bit_5_atHL => .bitTest 5 (.mem .atHL) 12
  | .bit_5_a => .bitTest 5 (.reg .a) 8
  | .bit_6_b => .bitTest 6 (.reg .b) 8
  | .bit_6_c => .bitTest 6 (.reg .c) 8
  | .bit_6_d => .bitTest 6 (.reg .d) 8
  | .bit_6_e => .bitTest 6 (.reg .e) 8
  | .bit_6_h => .bitTest 6 (.reg .h) 8
  | .bit_6_l => .bitTest 6 (.reg .l) 8
  | .bit_6_atHL => .bitTest 6 (.mem .atHL) 12
  | .bit_6_a => .bitTest 6 (.reg .a) 8
  | .bit_7_b => .bitTest 7 (.reg .b) 8
  | .bit_7_c => .bitTest 7 (.reg .c) 8
  | .bit_7_d => .bitTest 7 (.reg .d) 8
  | .bit_7_e => .bitTest 7 (.reg .e) 8
  | .bit_7_h => .bitTest 7 (.reg .h) 8
  | .bit_7_l => .bitTest 7 (.reg .l) 8
  | .bit_7_atHL => .bitTest 7 (.mem .atHL) 12
  | .bit_7_a => .bitTest 7 (.reg .a) 8
  | .res_0_b => .bitClear 0 (.reg .b) 8
  | .res_0_c => .bitClear 0 (.reg .c) 8
  | .res_0_d => .bitClear 0 (.reg .d) 8
  | .res_0_e => .bitClear 0 (.reg .e) 8
  | .res_0_h => .bitClear 0 (.reg .h) 8
  | .res_0_l => .bitClear 0 (.reg .l) 8
  | .res_0_atHL => .bitClear 0 (.mem .atHL) 16
  | .res_0_a => .bitClear 0 (.reg .a) 8
  | .res_1_b => .bitClear 1 (.reg .b) 8
  | .res_1_c => .bitClear 1 (.reg .c) 8
  | .res_1_d => .bitClear 1 (.reg .d) 8
  | .res_1_e => .bitClear 1 (.reg .e) 8
  | .res_1_h => .bitClear 1 (.reg .h) 8
  | .res_1_l => .bitClear 1 (.reg .l) 8
  | .res_1_atHL => .bitClear 1 (.mem .atHL) 16
  | .res_1_a => .bitClear 1 (.reg .a) 8
  | .res_2_b => .bitClear 2 (.reg .b) 8
  | .res_2_c => .bitClear 2 (.reg .c) 8
  | .res_2_d => .bitClear 2 (.reg .d) 8
  | .res_2_e => .bitClear 2 (.reg .e) 8
  | .res_2_h => .bitClear 2 (.reg .h) 8
  | .res_2_l => .bitClear 2 (.reg .l) 8
  | .res_2_atHL => .bitClear 2 (.mem .atHL) 16
  | .res_2_a => .bitClear 2 (.reg .a) 8
  | .res_3_b => .bitClear 3 (.reg .b) 8
  | .res_3_c => .bitClear 3 (.reg .c) 8
  | .res_3_d => .bitClear 3 (.reg .d) 8
  | .res_3_e => .bitClear 3 (.reg .e) 8
  | .res_3_h => .bitClear 3 (.reg .h) 8
  | .res_3_l => .bitClear 3 (.reg .l) 8
  | .res_3_atHL => .bitClear 3 (.mem .atHL) 16
  | .res_3_a => .bitClear 3 (.reg .a) 8
  | .res_4_b => .bitClear 4 (.reg .b) 8
  | .res_4_c => .bitClear 4 (.reg .c) 8
  | .res_4_d => .bitClear 4 (.reg .d) 8
  | .res_4_e => .bitClear 4 (.reg .e) 8
  | .res_4_h => .bitClear 4 (.reg .h) 8
  | .res_4_l => .bitClear 4 (.reg .l) 8
  | .res_4_atHL => .bitClear 4 (.mem .atHL) 16
  | .res_4_a => .bitClear 4 (.reg .a) 8
  | .res_5_b => .bitClear 5 (.reg .b) 8
  | .res_5_c => .bitClear 5 (.reg .c) 8
  | .res_5_d => .bitClear 5 (.reg .d) 8
  | .res_5_e => .bitClear 5 (.reg .e) 8
  | .res_5_h => .bitClear 5 (.reg .h) 8
  | .res_5_l => .bitClear 5 (.reg .l) 8
  | .res_5_atHL => .bitClear 5 (.mem .atHL) 16
  | .res_5_a => .bitClear 5 (.reg .a) 8
  | .res_6_b => .bitClear 6 (.reg .b) 8
  | .res_6_c => .bitClear 6 (.reg .c) 8
  | .res_6_d => .bitClear 6 (.reg .d) 8
  | .res_6_e => .bitClear 6 (.reg .e) 8
  | .res_6_h => .bitClear 6 (.reg .h) 8
  | .res_6_l => .bitClear 6 (.reg .l) 8
  | .res_6_atHL => .bitClear 6 (.mem .atHL) 16
  | .res_6_a => .bitClear 6 (.reg .a) 8
  | .res_7_b => .bitClear 7 (.reg .b) 8
  | .res_7_c => .bitClear 7 (.reg .c) 8
  | .res_7_d => .bitClear 7 (.reg .d) 8
  | .res_7_e => .bitClear 7 (.reg .e) 8
  | .res_7_h => .bitClear 7 (.reg .h) 8
  | .res_7_l => .bitClear 7 (.reg .l) 8
  | .res_7_atHL => .bitClear 7 (.mem .atHL) 16
  | .res_7_a => .bitClear 7 (.reg .a) 8
  | .set_0_b => .bitSet 0 (.reg .b) 8
  | .set_0_c => .bitSet 0 (.reg .c) 8
  | .set_0_d => .bitSet 0 (.reg .d) 8
  | .set_0_e => .bitSet 0 (.reg .e) 8
  | .set_0_h => .bitSet 0 (.reg .h) 8
  | .set_0_l => .bitSet 0 (.reg .l) 8
  | .set_0_atHL => .bitSet 0 (.mem .atHL) 16
  | .set_0_a => .bitSet 0 (.reg .a) 8
  | .set_1_b => .bitSet 1 (.reg .b) 8
  | .set_1_c => .bitSet 1 (.reg .c) 8
  | .set_1_d => .bitSet 1 (.reg .d) 8
  | .set_1_e => .bitSet 1 (.reg .e) 8
  | .set_1_h => .bitSet 1 (.reg .h) 8
  | .set_1_l => .bitSet 1 (.reg .l) 8
  | .set_1_atHL => .bitSet 1 (.mem .atHL) 16
  | .set_1_a => .bitSet 1 (.reg .a) 8
  | .set_2_b => .bitSet 2 (.reg .b) 8
  | .set_2_c => .bitSet 2 (.reg .c) 8
  | .set_2_d => .bitSet 2 (.reg .d) 8
  | .set_2_e => .bitSet 2 (.reg .e) 8
  | .set_2_h => .bitSet 2 (.reg .h) 8
  | .set_2_l => .bitSet 2 (.reg .l) 8
  | .set_2_atHL => .bitSet 2 (.mem .atHL) 16
  | .set_2_a => .bitSet 2 (.reg .a) 8
  | .set_3_b => .bitSet 3 (.reg .b) 8
  | .set_3_c => .bitSet 3 (.reg .c) 8
  | .set_3_d => .bitSet 3 (.reg .d) 8
  | .set_3_e => .bitSet 3 (.reg .e) 8
  | .set_3_h => .bitSet 3 (.reg .h) 8
  | .set_3_l => .bitSet 3 (.reg .l) 8
  | .set_3_atHL => .bitSet 3 (.mem .atHL) 16
  | .set_3_a => .bitSet 3 (.reg .a) 8
  | .set_4_b => .bitSet 4 (.reg .b) 8
  | .set_4_c => .bitSet 4 (.reg .c) 8
  | .set_4_d => .bitSet 4 (.reg .d) 8
  | .set_4_e => .bitSet 4 (.reg .e) 8
  | .set_4_h => .bitSet 4 (.reg .h) 8
  | .set_4_l => .bitSet 4 (.reg .l) 8
  | .set_4_atHL => .bitSet 4 (.mem .atHL) 16
  | .set_4_a => .bitSet 4 (.reg .a) 8
  | .set_5_b => .bitSet 5 (.reg .b) 8
  | .set_5_c => .bitSet 5 (.reg .c) 8
  | .set_5_d => .bitSet 5 (.reg .d) 8
  | .set_5_e => .bitSet 5 (.reg .e) 8
  | .set_5_h => .bitSet 5 (.reg .h) 8
  | .set_5_l => .bitSet 5 (.reg .l) 8
  | .set_5_atHL => .bitSet 5 (.mem .atHL) 16
  | .set_5_a => .bitSet 5 (.reg .a) 8
  | .set_6_b => .bitSet 6 (.reg .b) 8
  | .set_6_c => .bitSet 6 (.reg .c) 8
  | .set_6_d => .bitSet 6 (.reg .d) 8
  | .set_6_e => .bitSet 6 (.reg .e) 8
  | .set_6_h => .bitSet 6 (.reg .h) 8
  | .set_6_l => .bitSet 6 (.reg .l) 8
  | .set_6_atHL => .bitSet 6 (.mem .atHL) 16
  | .set_6_a => .bitSet 6 (.reg .a) 8
  | .set_7_b => .bitSet 7 (.reg .b) 8
  | .set_7_c => .bitSet 7 (.reg .c) 8
  | .set_7_d => .bitSet 7 (.reg .d) 8
  | .set_7_e => .bitSet 7 (.reg .e) 8
  | .set_7_h => .bitSet 7 (.reg .h) 8
  | .set_7_l => .bitSet 7 (.reg .l) 8
  | .set_7_atHL => .bitSet 7 (.mem .atHL) 16
  | .set_7_a => .bitSet 7 (.reg .a) 8
  | .jp_n16 n => .jump .always n 16 16
  | .jp_nz_n16 n => .jump .nz n 16 12
  | .jp_z_n16 n => .jump .z n 16 12
  | .jp_nc_n16 n => .jump .nc n 16 12
  | .jp_c_n16 n => .jump .c n 16 12
  | .jp_hl => .jump .always s.hl 4 4
  | .jr_e8 e => .jumpRelative .always e 12 12
  | .jr_nz_e8 e => .jumpRelative .nz e 12 8
  | .jr_z_e8 e => .jumpRelative .z e 12 8
  | .jr_nc_e8 e => .jumpRelative .nc e 12 8
  | .jr_c_e8 e => .jumpRelative .c e 12 8
  | .call_n16 n => .call .always n 24 24
  | .call_nz_n16 n => .call .nz n 24 12
  | .call_z_n16 n => .call .z n 24 12
  | .call_nc_n16 n => .call .nc n 24 12
  | .call_c_n16 n => .call .c n 24 12
  | .rst_00 => .call .always 0x00 16 16
  | .rst_08 => .call .always 0x08 16 16
  | .rst_10 => .call .always 0x10 16 16
  | .rst_18 => .call .always 0x18 16 16
  | .rst_20 => .call .always 0x20 16 16
  | .rst_28 => .call .always 0x28 16 16
  | .rst_30 => .call .always 0x30 16 16
  | .rst_38 => .call .always 0x38 16 16
  | .ret => .ret .always 16 16
  | .ret_nz => .ret .nz 20 8
  | .ret_z => .ret .z 20 8
  | .ret_nc => .ret .nc 20 8
  | .ret_c => .ret .c 20 8
  | .reti => .retEnable 16
  | .nop => .complete 4
  | .halt => .enterHalt 4
  | .stop => .enterStop 4
  | .di => .writeIme false 4
  | .ei => .writeIme true 4
  | .prefix_cb b => prefixedEntry_does b s
  | .illegal op => .raiseIllegalOpcode op

end Sys2Proof.Laws
end

