-- ==== Sys2Proof/Laws/PerInstr.lean ====
section
/-! SUPPORT. One law per instruction, as syntax: its encoding begins with an opcode byte whose format (R120, R136) says how
many bytes the encoding has. -/

namespace Sys2Proof.Laws

/-- The first byte of the encoding gives its length (R136). -/
def EncodedLength.Statement (i : Instr) : Prop :=
  ∀ p : StopLength, i.wellFormed = true →
    ∃ op rest, encode p i = op :: rest ∧ rest.length + 1 = (instrFormat p op).length

/-- An illegal marker is one byte long (R426). -/
theorem illegal_format_length (p : StopLength) (op : Byte) (h : (Instr.illegal op).wellFormed = true) :
    ([] : List Byte).length + 1 = (instrFormat p op).length := by
  have hm : op ∈ illegalOpcodes := of_decide_eq_true h
  simp only [illegalOpcodes, List.mem_cons, List.not_mem_nil, or_false] at hm
  rcases hm with rfl | rfl | rfl | rfl | rfl | rfl | rfl | rfl | rfl | rfl | rfl <;> cases p <;> rfl

theorem EncodedLength.ld_b_b : EncodedLength.Statement .ld_b_b :=
  fun p _ => ⟨_, _, rfl, by cases p <;> rfl⟩

theorem EncodedLength.ld_b_c : EncodedLength.Statement .ld_b_c :=
  fun p _ => ⟨_, _, rfl, by cases p <;> rfl⟩

theorem EncodedLength.ld_b_d : EncodedLength.Statement .ld_b_d :=
  fun p _ => ⟨_, _, rfl, by cases p <;> rfl⟩

theorem EncodedLength.ld_b_e : EncodedLength.Statement .ld_b_e :=
  fun p _ => ⟨_, _, rfl, by cases p <;> rfl⟩

theorem EncodedLength.ld_b_h : EncodedLength.Statement .ld_b_h :=
  fun p _ => ⟨_, _, rfl, by cases p <;> rfl⟩

theorem EncodedLength.ld_b_l : EncodedLength.Statement .ld_b_l :=
  fun p _ => ⟨_, _, rfl, by cases p <;> rfl⟩

theorem EncodedLength.ld_b_a : EncodedLength.Statement .ld_b_a :=
  fun p _ => ⟨_, _, rfl, by cases p <;> rfl⟩

theorem EncodedLength.ld_c_b : EncodedLength.Statement .ld_c_b :=
  fun p _ => ⟨_, _, rfl, by cases p <;> rfl⟩

theorem EncodedLength.ld_c_c : EncodedLength.Statement .ld_c_c :=
  fun p _ => ⟨_, _, rfl, by cases p <;> rfl⟩

theorem EncodedLength.ld_c_d : EncodedLength.Statement .ld_c_d :=
  fun p _ => ⟨_, _, rfl, by cases p <;> rfl⟩

theorem EncodedLength.ld_c_e : EncodedLength.Statement .ld_c_e :=
  fun p _ => ⟨_, _, rfl, by cases p <;> rfl⟩

theorem EncodedLength.ld_c_h : EncodedLength.Statement .ld_c_h :=
  fun p _ => ⟨_, _, rfl, by cases p <;> rfl⟩

theorem EncodedLength.ld_c_l : EncodedLength.Statement .ld_c_l :=
  fun p _ => ⟨_, _, rfl, by cases p <;> rfl⟩

theorem EncodedLength.ld_c_a : EncodedLength.Statement .ld_c_a :=
  fun p _ => ⟨_, _, rfl, by cases p <;> rfl⟩

theorem EncodedLength.ld_d_b : EncodedLength.Statement .ld_d_b :=
  fun p _ => ⟨_, _, rfl, by cases p <;> rfl⟩

theorem EncodedLength.ld_d_c : EncodedLength.Statement .ld_d_c :=
  fun p _ => ⟨_, _, rfl, by cases p <;> rfl⟩

theorem EncodedLength.ld_d_d : EncodedLength.Statement .ld_d_d :=
  fun p _ => ⟨_, _, rfl, by cases p <;> rfl⟩

theorem EncodedLength.ld_d_e : EncodedLength.Statement .ld_d_e :=
  fun p _ => ⟨_, _, rfl, by cases p <;> rfl⟩

theorem EncodedLength.ld_d_h : EncodedLength.Statement .ld_d_h :=
  fun p _ => ⟨_, _, rfl, by cases p <;> rfl⟩

theorem EncodedLength.ld_d_l : EncodedLength.Statement .ld_d_l :=
  fun p _ => ⟨_, _, rfl, by cases p <;> rfl⟩

theorem EncodedLength.ld_d_a : EncodedLength.Statement .ld_d_a :=
  fun p _ => ⟨_, _, rfl, by cases p <;> rfl⟩

theorem EncodedLength.ld_e_b : EncodedLength.Statement .ld_e_b :=
  fun p _ => ⟨_, _, rfl, by cases p <;> rfl⟩

theorem EncodedLength.ld_e_c : EncodedLength.Statement .ld_e_c :=
  fun p _ => ⟨_, _, rfl, by cases p <;> rfl⟩

theorem EncodedLength.ld_e_d : EncodedLength.Statement .ld_e_d :=
  fun p _ => ⟨_, _, rfl, by cases p <;> rfl⟩

theorem EncodedLength.ld_e_e : EncodedLength.Statement .ld_e_e :=
  fun p _ => ⟨_, _, rfl, by cases p <;> rfl⟩

theorem EncodedLength.ld_e_h : EncodedLength.Statement .ld_e_h :=
  fun p _ => ⟨_, _, rfl, by cases p <;> rfl⟩

theorem EncodedLength.ld_e_l : EncodedLength.Statement .ld_e_l :=
  fun p _ => ⟨_, _, rfl, by cases p <;> rfl⟩

theorem EncodedLength.ld_e_a : EncodedLength.Statement .ld_e_a :=
  fun p _ => ⟨_, _, rfl, by cases p <;> rfl⟩

theorem EncodedLength.ld_h_b : EncodedLength.Statement .ld_h_b :=
  fun p _ => ⟨_, _, rfl, by cases p <;> rfl⟩

theorem EncodedLength.ld_h_c : EncodedLength.Statement .ld_h_c :=
  fun p _ => ⟨_, _, rfl, by cases p <;> rfl⟩

theorem EncodedLength.ld_h_d : EncodedLength.Statement .ld_h_d :=
  fun p _ => ⟨_, _, rfl, by cases p <;> rfl⟩

theorem EncodedLength.ld_h_e : EncodedLength.Statement .ld_h_e :=
  fun p _ => ⟨_, _, rfl, by cases p <;> rfl⟩

theorem EncodedLength.ld_h_h : EncodedLength.Statement .ld_h_h :=
  fun p _ => ⟨_, _, rfl, by cases p <;> rfl⟩

theorem EncodedLength.ld_h_l : EncodedLength.Statement .ld_h_l :=
  fun p _ => ⟨_, _, rfl, by cases p <;> rfl⟩

theorem EncodedLength.ld_h_a : EncodedLength.Statement .ld_h_a :=
  fun p _ => ⟨_, _, rfl, by cases p <;> rfl⟩

theorem EncodedLength.ld_l_b : EncodedLength.Statement .ld_l_b :=
  fun p _ => ⟨_, _, rfl, by cases p <;> rfl⟩

theorem EncodedLength.ld_l_c : EncodedLength.Statement .ld_l_c :=
  fun p _ => ⟨_, _, rfl, by cases p <;> rfl⟩

theorem EncodedLength.ld_l_d : EncodedLength.Statement .ld_l_d :=
  fun p _ => ⟨_, _, rfl, by cases p <;> rfl⟩

theorem EncodedLength.ld_l_e : EncodedLength.Statement .ld_l_e :=
  fun p _ => ⟨_, _, rfl, by cases p <;> rfl⟩

theorem EncodedLength.ld_l_h : EncodedLength.Statement .ld_l_h :=
  fun p _ => ⟨_, _, rfl, by cases p <;> rfl⟩

theorem EncodedLength.ld_l_l : EncodedLength.Statement .ld_l_l :=
  fun p _ => ⟨_, _, rfl, by cases p <;> rfl⟩

theorem EncodedLength.ld_l_a : EncodedLength.Statement .ld_l_a :=
  fun p _ => ⟨_, _, rfl, by cases p <;> rfl⟩

theorem EncodedLength.ld_a_b : EncodedLength.Statement .ld_a_b :=
  fun p _ => ⟨_, _, rfl, by cases p <;> rfl⟩

theorem EncodedLength.ld_a_c : EncodedLength.Statement .ld_a_c :=
  fun p _ => ⟨_, _, rfl, by cases p <;> rfl⟩

theorem EncodedLength.ld_a_d : EncodedLength.Statement .ld_a_d :=
  fun p _ => ⟨_, _, rfl, by cases p <;> rfl⟩

theorem EncodedLength.ld_a_e : EncodedLength.Statement .ld_a_e :=
  fun p _ => ⟨_, _, rfl, by cases p <;> rfl⟩

theorem EncodedLength.ld_a_h : EncodedLength.Statement .ld_a_h :=
  fun p _ => ⟨_, _, rfl, by cases p <;> rfl⟩

theorem EncodedLength.ld_a_l : EncodedLength.Statement .ld_a_l :=
  fun p _ => ⟨_, _, rfl, by cases p <;> rfl⟩

theorem EncodedLength.ld_a_a : EncodedLength.Statement .ld_a_a :=
  fun p _ => ⟨_, _, rfl, by cases p <;> rfl⟩

theorem EncodedLength.ld_b_atHL : EncodedLength.Statement .ld_b_atHL :=
  fun p _ => ⟨_, _, rfl, by cases p <;> rfl⟩

theorem EncodedLength.ld_c_atHL : EncodedLength.Statement .ld_c_atHL :=
  fun p _ => ⟨_, _, rfl, by cases p <;> rfl⟩

theorem EncodedLength.ld_d_atHL : EncodedLength.Statement .ld_d_atHL :=
  fun p _ => ⟨_, _, rfl, by cases p <;> rfl⟩

theorem EncodedLength.ld_e_atHL : EncodedLength.Statement .ld_e_atHL :=
  fun p _ => ⟨_, _, rfl, by cases p <;> rfl⟩

theorem EncodedLength.ld_h_atHL : EncodedLength.Statement .ld_h_atHL :=
  fun p _ => ⟨_, _, rfl, by cases p <;> rfl⟩

theorem EncodedLength.ld_l_atHL : EncodedLength.Statement .ld_l_atHL :=
  fun p _ => ⟨_, _, rfl, by cases p <;> rfl⟩

theorem EncodedLength.ld_a_atHL : EncodedLength.Statement .ld_a_atHL :=
  fun p _ => ⟨_, _, rfl, by cases p <;> rfl⟩

theorem EncodedLength.ld_atHL_b : EncodedLength.Statement .ld_atHL_b :=
  fun p _ => ⟨_, _, rfl, by cases p <;> rfl⟩

theorem EncodedLength.ld_atHL_c : EncodedLength.Statement .ld_atHL_c :=
  fun p _ => ⟨_, _, rfl, by cases p <;> rfl⟩

theorem EncodedLength.ld_atHL_d : EncodedLength.Statement .ld_atHL_d :=
  fun p _ => ⟨_, _, rfl, by cases p <;> rfl⟩

theorem EncodedLength.ld_atHL_e : EncodedLength.Statement .ld_atHL_e :=
  fun p _ => ⟨_, _, rfl, by cases p <;> rfl⟩

theorem EncodedLength.ld_atHL_h : EncodedLength.Statement .ld_atHL_h :=
  fun p _ => ⟨_, _, rfl, by cases p <;> rfl⟩

theorem EncodedLength.ld_atHL_l : EncodedLength.Statement .ld_atHL_l :=
  fun p _ => ⟨_, _, rfl, by cases p <;> rfl⟩

theorem EncodedLength.ld_atHL_a : EncodedLength.Statement .ld_atHL_a :=
  fun p _ => ⟨_, _, rfl, by cases p <;> rfl⟩

theorem EncodedLength.ld_b_n8 (n : Byte) : EncodedLength.Statement (.ld_b_n8 n) :=
  fun p _ => ⟨_, _, rfl, by cases p <;> rfl⟩

theorem EncodedLength.ld_c_n8 (n : Byte) : EncodedLength.Statement (.ld_c_n8 n) :=
  fun p _ => ⟨_, _, rfl, by cases p <;> rfl⟩

theorem EncodedLength.ld_d_n8 (n : Byte) : EncodedLength.Statement (.ld_d_n8 n) :=
  fun p _ => ⟨_, _, rfl, by cases p <;> rfl⟩

theorem EncodedLength.ld_e_n8 (n : Byte) : EncodedLength.Statement (.ld_e_n8 n) :=
  fun p _ => ⟨_, _, rfl, by cases p <;> rfl⟩

theorem EncodedLength.ld_h_n8 (n : Byte) : EncodedLength.Statement (.ld_h_n8 n) :=
  fun p _ => ⟨_, _, rfl, by cases p <;> rfl⟩

theorem EncodedLength.ld_l_n8 (n : Byte) : EncodedLength.Statement (.ld_l_n8 n) :=
  fun p _ => ⟨_, _, rfl, by cases p <;> rfl⟩

theorem EncodedLength.ld_a_n8 (n : Byte) : EncodedLength.Statement (.ld_a_n8 n) :=
  fun p _ => ⟨_, _, rfl, by cases p <;> rfl⟩

theorem EncodedLength.ld_atHL_n8 (n : Byte) : EncodedLength.Statement (.ld_atHL_n8 n) :=
  fun p _ => ⟨_, _, rfl, by cases p <;> rfl⟩

theorem EncodedLength.ld_a_atBC : EncodedLength.Statement .ld_a_atBC :=
  fun p _ => ⟨_, _, rfl, by cases p <;> rfl⟩

theorem EncodedLength.ld_a_atDE : EncodedLength.Statement .ld_a_atDE :=
  fun p _ => ⟨_, _, rfl, by cases p <;> rfl⟩

theorem EncodedLength.ld_atBC_a : EncodedLength.Statement .ld_atBC_a :=
  fun p _ => ⟨_, _, rfl, by cases p <;> rfl⟩

theorem EncodedLength.ld_atDE_a : EncodedLength.Statement .ld_atDE_a :=
  fun p _ => ⟨_, _, rfl, by cases p <;> rfl⟩

theorem EncodedLength.ld_a_atHLInc : EncodedLength.Statement .ld_a_atHLInc :=
  fun p _ => ⟨_, _, rfl, by cases p <;> rfl⟩

theorem EncodedLength.ld_a_atHLDec : EncodedLength.Statement .ld_a_atHLDec :=
  fun p _ => ⟨_, _, rfl, by cases p <;> rfl⟩

theorem EncodedLength.ld_atHLInc_a : EncodedLength.Statement .ld_atHLInc_a :=
  fun p _ => ⟨_, _, rfl, by cases p <;> rfl⟩

theorem EncodedLength.ld_atHLDec_a : EncodedLength.Statement .ld_atHLDec_a :=
  fun p _ => ⟨_, _, rfl, by cases p <;> rfl⟩

theorem EncodedLength.ld_a_atA16 (addr : Word) : EncodedLength.Statement (.ld_a_atA16 addr) :=
  fun p _ => ⟨_, _, rfl, by cases p <;> rfl⟩

theorem EncodedLength.ld_atA16_a (addr : Word) : EncodedLength.Statement (.ld_atA16_a addr) :=
  fun p _ => ⟨_, _, rfl, by cases p <;> rfl⟩

theorem EncodedLength.ldh_a_atA8 (o : Byte) : EncodedLength.Statement (.ldh_a_atA8 o) :=
  fun p _ => ⟨_, _, rfl, by cases p <;> rfl⟩

theorem EncodedLength.ldh_atA8_a (o : Byte) : EncodedLength.Statement (.ldh_atA8_a o) :=
  fun p _ => ⟨_, _, rfl, by cases p <;> rfl⟩

theorem EncodedLength.ld_a_atC : EncodedLength.Statement .ld_a_atC :=
  fun p _ => ⟨_, _, rfl, by cases p <;> rfl⟩

theorem EncodedLength.ld_atC_a : EncodedLength.Statement .ld_atC_a :=
  fun p _ => ⟨_, _, rfl, by cases p <;> rfl⟩

theorem EncodedLength.ld_bc_n16 (n : Word) : EncodedLength.Statement (.ld_bc_n16 n) :=
  fun p _ => ⟨_, _, rfl, by cases p <;> rfl⟩

theorem EncodedLength.ld_de_n16 (n : Word) : EncodedLength.Statement (.ld_de_n16 n) :=
  fun p _ => ⟨_, _, rfl, by cases p <;> rfl⟩

theorem EncodedLength.ld_hl_n16 (n : Word) : EncodedLength.Statement (.ld_hl_n16 n) :=
  fun p _ => ⟨_, _, rfl, by cases p <;> rfl⟩

theorem EncodedLength.ld_sp_n16 (n : Word) : EncodedLength.Statement (.ld_sp_n16 n) :=
  fun p _ => ⟨_, _, rfl, by cases p <;> rfl⟩

theorem EncodedLength.ld_atA16_sp (addr : Word) : EncodedLength.Statement (.ld_atA16_sp addr) :=
  fun p _ => ⟨_, _, rfl, by cases p <;> rfl⟩

theorem EncodedLength.ld_sp_hl : EncodedLength.Statement .ld_sp_hl :=
  fun p _ => ⟨_, _, rfl, by cases p <;> rfl⟩

theorem EncodedLength.ld_hl_spPlusE8 (e : Byte) : EncodedLength.Statement (.ld_hl_spPlusE8 e) :=
  fun p _ => ⟨_, _, rfl, by cases p <;> rfl⟩

theorem EncodedLength.push_bc : EncodedLength.Statement .push_bc :=
  fun p _ => ⟨_, _, rfl, by cases p <;> rfl⟩

theorem EncodedLength.push_de : EncodedLength.Statement .push_de :=
  fun p _ => ⟨_, _, rfl, by cases p <;> rfl⟩

theorem EncodedLength.push_hl : EncodedLength.Statement .push_hl :=
  fun p _ => ⟨_, _, rfl, by cases p <;> rfl⟩

theorem EncodedLength.push_af : EncodedLength.Statement .push_af :=
  fun p _ => ⟨_, _, rfl, by cases p <;> rfl⟩

theorem EncodedLength.pop_bc : EncodedLength.Statement .pop_bc :=
  fun p _ => ⟨_, _, rfl, by cases p <;> rfl⟩

theorem EncodedLength.pop_de : EncodedLength.Statement .pop_de :=
  fun p _ => ⟨_, _, rfl, by cases p <;> rfl⟩

theorem EncodedLength.pop_hl : EncodedLength.Statement .pop_hl :=
  fun p _ => ⟨_, _, rfl, by cases p <;> rfl⟩

theorem EncodedLength.pop_af : EncodedLength.Statement .pop_af :=
  fun p _ => ⟨_, _, rfl, by cases p <;> rfl⟩

theorem EncodedLength.add_a_b : EncodedLength.Statement .add_a_b :=
  fun p _ => ⟨_, _, rfl, by cases p <;> rfl⟩

theorem EncodedLength.add_a_c : EncodedLength.Statement .add_a_c :=
  fun p _ => ⟨_, _, rfl, by cases p <;> rfl⟩

theorem EncodedLength.add_a_d : EncodedLength.Statement .add_a_d :=
  fun p _ => ⟨_, _, rfl, by cases p <;> rfl⟩

theorem EncodedLength.add_a_e : EncodedLength.Statement .add_a_e :=
  fun p _ => ⟨_, _, rfl, by cases p <;> rfl⟩

theorem EncodedLength.add_a_h : EncodedLength.Statement .add_a_h :=
  fun p _ => ⟨_, _, rfl, by cases p <;> rfl⟩

theorem EncodedLength.add_a_l : EncodedLength.Statement .add_a_l :=
  fun p _ => ⟨_, _, rfl, by cases p <;> rfl⟩

theorem EncodedLength.add_a_atHL : EncodedLength.Statement .add_a_atHL :=
  fun p _ => ⟨_, _, rfl, by cases p <;> rfl⟩

theorem EncodedLength.add_a_a : EncodedLength.Statement .add_a_a :=
  fun p _ => ⟨_, _, rfl, by cases p <;> rfl⟩

theorem EncodedLength.add_a_n8 (n : Byte) : EncodedLength.Statement (.add_a_n8 n) :=
  fun p _ => ⟨_, _, rfl, by cases p <;> rfl⟩

theorem EncodedLength.adc_a_b : EncodedLength.Statement .adc_a_b :=
  fun p _ => ⟨_, _, rfl, by cases p <;> rfl⟩

theorem EncodedLength.adc_a_c : EncodedLength.Statement .adc_a_c :=
  fun p _ => ⟨_, _, rfl, by cases p <;> rfl⟩

theorem EncodedLength.adc_a_d : EncodedLength.Statement .adc_a_d :=
  fun p _ => ⟨_, _, rfl, by cases p <;> rfl⟩

theorem EncodedLength.adc_a_e : EncodedLength.Statement .adc_a_e :=
  fun p _ => ⟨_, _, rfl, by cases p <;> rfl⟩

theorem EncodedLength.adc_a_h : EncodedLength.Statement .adc_a_h :=
  fun p _ => ⟨_, _, rfl, by cases p <;> rfl⟩

theorem EncodedLength.adc_a_l : EncodedLength.Statement .adc_a_l :=
  fun p _ => ⟨_, _, rfl, by cases p <;> rfl⟩

theorem EncodedLength.adc_a_atHL : EncodedLength.Statement .adc_a_atHL :=
  fun p _ => ⟨_, _, rfl, by cases p <;> rfl⟩

theorem EncodedLength.adc_a_a : EncodedLength.Statement .adc_a_a :=
  fun p _ => ⟨_, _, rfl, by cases p <;> rfl⟩

theorem EncodedLength.adc_a_n8 (n : Byte) : EncodedLength.Statement (.adc_a_n8 n) :=
  fun p _ => ⟨_, _, rfl, by cases p <;> rfl⟩

theorem EncodedLength.sub_a_b : EncodedLength.Statement .sub_a_b :=
  fun p _ => ⟨_, _, rfl, by cases p <;> rfl⟩

theorem EncodedLength.sub_a_c : EncodedLength.Statement .sub_a_c :=
  fun p _ => ⟨_, _, rfl, by cases p <;> rfl⟩

theorem EncodedLength.sub_a_d : EncodedLength.Statement .sub_a_d :=
  fun p _ => ⟨_, _, rfl, by cases p <;> rfl⟩

theorem EncodedLength.sub_a_e : EncodedLength.Statement .sub_a_e :=
  fun p _ => ⟨_, _, rfl, by cases p <;> rfl⟩

theorem EncodedLength.sub_a_h : EncodedLength.Statement .sub_a_h :=
  fun p _ => ⟨_, _, rfl, by cases p <;> rfl⟩

theorem EncodedLength.sub_a_l : EncodedLength.Statement .sub_a_l :=
  fun p _ => ⟨_, _, rfl, by cases p <;> rfl⟩

theorem EncodedLength.sub_a_atHL : EncodedLength.Statement .sub_a_atHL :=
  fun p _ => ⟨_, _, rfl, by cases p <;> rfl⟩

theorem EncodedLength.sub_a_a : EncodedLength.Statement .sub_a_a :=
  fun p _ => ⟨_, _, rfl, by cases p <;> rfl⟩

theorem EncodedLength.sub_a_n8 (n : Byte) : EncodedLength.Statement (.sub_a_n8 n) :=
  fun p _ => ⟨_, _, rfl, by cases p <;> rfl⟩

theorem EncodedLength.sbc_a_b : EncodedLength.Statement .sbc_a_b :=
  fun p _ => ⟨_, _, rfl, by cases p <;> rfl⟩

theorem EncodedLength.sbc_a_c : EncodedLength.Statement .sbc_a_c :=
  fun p _ => ⟨_, _, rfl, by cases p <;> rfl⟩

theorem EncodedLength.sbc_a_d : EncodedLength.Statement .sbc_a_d :=
  fun p _ => ⟨_, _, rfl, by cases p <;> rfl⟩

theorem EncodedLength.sbc_a_e : EncodedLength.Statement .sbc_a_e :=
  fun p _ => ⟨_, _, rfl, by cases p <;> rfl⟩

theorem EncodedLength.sbc_a_h : EncodedLength.Statement .sbc_a_h :=
  fun p _ => ⟨_, _, rfl, by cases p <;> rfl⟩

theorem EncodedLength.sbc_a_l : EncodedLength.Statement .sbc_a_l :=
  fun p _ => ⟨_, _, rfl, by cases p <;> rfl⟩

theorem EncodedLength.sbc_a_atHL : EncodedLength.Statement .sbc_a_atHL :=
  fun p _ => ⟨_, _, rfl, by cases p <;> rfl⟩

theorem EncodedLength.sbc_a_a : EncodedLength.Statement .sbc_a_a :=
  fun p _ => ⟨_, _, rfl, by cases p <;> rfl⟩

theorem EncodedLength.sbc_a_n8 (n : Byte) : EncodedLength.Statement (.sbc_a_n8 n) :=
  fun p _ => ⟨_, _, rfl, by cases p <;> rfl⟩

theorem EncodedLength.and_a_b : EncodedLength.Statement .and_a_b :=
  fun p _ => ⟨_, _, rfl, by cases p <;> rfl⟩

theorem EncodedLength.and_a_c : EncodedLength.Statement .and_a_c :=
  fun p _ => ⟨_, _, rfl, by cases p <;> rfl⟩

theorem EncodedLength.and_a_d : EncodedLength.Statement .and_a_d :=
  fun p _ => ⟨_, _, rfl, by cases p <;> rfl⟩

theorem EncodedLength.and_a_e : EncodedLength.Statement .and_a_e :=
  fun p _ => ⟨_, _, rfl, by cases p <;> rfl⟩

theorem EncodedLength.and_a_h : EncodedLength.Statement .and_a_h :=
  fun p _ => ⟨_, _, rfl, by cases p <;> rfl⟩

theorem EncodedLength.and_a_l : EncodedLength.Statement .and_a_l :=
  fun p _ => ⟨_, _, rfl, by cases p <;> rfl⟩

theorem EncodedLength.and_a_atHL : EncodedLength.Statement .and_a_atHL :=
  fun p _ => ⟨_, _, rfl, by cases p <;> rfl⟩

theorem EncodedLength.and_a_a : EncodedLength.Statement .and_a_a :=
  fun p _ => ⟨_, _, rfl, by cases p <;> rfl⟩

theorem EncodedLength.and_a_n8 (n : Byte) : EncodedLength.Statement (.and_a_n8 n) :=
  fun p _ => ⟨_, _, rfl, by cases p <;> rfl⟩

theorem EncodedLength.xor_a_b : EncodedLength.Statement .xor_a_b :=
  fun p _ => ⟨_, _, rfl, by cases p <;> rfl⟩

theorem EncodedLength.xor_a_c : EncodedLength.Statement .xor_a_c :=
  fun p _ => ⟨_, _, rfl, by cases p <;> rfl⟩

theorem EncodedLength.xor_a_d : EncodedLength.Statement .xor_a_d :=
  fun p _ => ⟨_, _, rfl, by cases p <;> rfl⟩

theorem EncodedLength.xor_a_e : EncodedLength.Statement .xor_a_e :=
  fun p _ => ⟨_, _, rfl, by cases p <;> rfl⟩

theorem EncodedLength.xor_a_h : EncodedLength.Statement .xor_a_h :=
  fun p _ => ⟨_, _, rfl, by cases p <;> rfl⟩

theorem EncodedLength.xor_a_l : EncodedLength.Statement .xor_a_l :=
  fun p _ => ⟨_, _, rfl, by cases p <;> rfl⟩

theorem EncodedLength.xor_a_atHL : EncodedLength.Statement .xor_a_atHL :=
  fun p _ => ⟨_, _, rfl, by cases p <;> rfl⟩

theorem EncodedLength.xor_a_a : EncodedLength.Statement .xor_a_a :=
  fun p _ => ⟨_, _, rfl, by cases p <;> rfl⟩

theorem EncodedLength.xor_a_n8 (n : Byte) : EncodedLength.Statement (.xor_a_n8 n) :=
  fun p _ => ⟨_, _, rfl, by cases p <;> rfl⟩

theorem EncodedLength.or_a_b : EncodedLength.Statement .or_a_b :=
  fun p _ => ⟨_, _, rfl, by cases p <;> rfl⟩

theorem EncodedLength.or_a_c : EncodedLength.Statement .or_a_c :=
  fun p _ => ⟨_, _, rfl, by cases p <;> rfl⟩

theorem EncodedLength.or_a_d : EncodedLength.Statement .or_a_d :=
  fun p _ => ⟨_, _, rfl, by cases p <;> rfl⟩

theorem EncodedLength.or_a_e : EncodedLength.Statement .or_a_e :=
  fun p _ => ⟨_, _, rfl, by cases p <;> rfl⟩

theorem EncodedLength.or_a_h : EncodedLength.Statement .or_a_h :=
  fun p _ => ⟨_, _, rfl, by cases p <;> rfl⟩

theorem EncodedLength.or_a_l : EncodedLength.Statement .or_a_l :=
  fun p _ => ⟨_, _, rfl, by cases p <;> rfl⟩

theorem EncodedLength.or_a_atHL : EncodedLength.Statement .or_a_atHL :=
  fun p _ => ⟨_, _, rfl, by cases p <;> rfl⟩

theorem EncodedLength.or_a_a : EncodedLength.Statement .or_a_a :=
  fun p _ => ⟨_, _, rfl, by cases p <;> rfl⟩

theorem EncodedLength.or_a_n8 (n : Byte) : EncodedLength.Statement (.or_a_n8 n) :=
  fun p _ => ⟨_, _, rfl, by cases p <;> rfl⟩

theorem EncodedLength.cp_a_b : EncodedLength.Statement .cp_a_b :=
  fun p _ => ⟨_, _, rfl, by cases p <;> rfl⟩

theorem EncodedLength.cp_a_c : EncodedLength.Statement .cp_a_c :=
  fun p _ => ⟨_, _, rfl, by cases p <;> rfl⟩

theorem EncodedLength.cp_a_d : EncodedLength.Statement .cp_a_d :=
  fun p _ => ⟨_, _, rfl, by cases p <;> rfl⟩

theorem EncodedLength.cp_a_e : EncodedLength.Statement .cp_a_e :=
  fun p _ => ⟨_, _, rfl, by cases p <;> rfl⟩

theorem EncodedLength.cp_a_h : EncodedLength.Statement .cp_a_h :=
  fun p _ => ⟨_, _, rfl, by cases p <;> rfl⟩

theorem EncodedLength.cp_a_l : EncodedLength.Statement .cp_a_l :=
  fun p _ => ⟨_, _, rfl, by cases p <;> rfl⟩

theorem EncodedLength.cp_a_atHL : EncodedLength.Statement .cp_a_atHL :=
  fun p _ => ⟨_, _, rfl, by cases p <;> rfl⟩

theorem EncodedLength.cp_a_a : EncodedLength.Statement .cp_a_a :=
  fun p _ => ⟨_, _, rfl, by cases p <;> rfl⟩

theorem EncodedLength.cp_a_n8 (n : Byte) : EncodedLength.Statement (.cp_a_n8 n) :=
  fun p _ => ⟨_, _, rfl, by cases p <;> rfl⟩

theorem EncodedLength.inc_b : EncodedLength.Statement .inc_b :=
  fun p _ => ⟨_, _, rfl, by cases p <;> rfl⟩

theorem EncodedLength.inc_c : EncodedLength.Statement .inc_c :=
  fun p _ => ⟨_, _, rfl, by cases p <;> rfl⟩

theorem EncodedLength.inc_d : EncodedLength.Statement .inc_d :=
  fun p _ => ⟨_, _, rfl, by cases p <;> rfl⟩

theorem EncodedLength.inc_e : EncodedLength.Statement .inc_e :=
  fun p _ => ⟨_, _, rfl, by cases p <;> rfl⟩

theorem EncodedLength.inc_h : EncodedLength.Statement .inc_h :=
  fun p _ => ⟨_, _, rfl, by cases p <;> rfl⟩

theorem EncodedLength.inc_l : EncodedLength.Statement .inc_l :=
  fun p _ => ⟨_, _, rfl, by cases p <;> rfl⟩

theorem EncodedLength.inc_a : EncodedLength.Statement .inc_a :=
  fun p _ => ⟨_, _, rfl, by cases p <;> rfl⟩

theorem EncodedLength.inc_atHL : EncodedLength.Statement .inc_atHL :=
  fun p _ => ⟨_, _, rfl, by cases p <;> rfl⟩

theorem EncodedLength.dec_b : EncodedLength.Statement .dec_b :=
  fun p _ => ⟨_, _, rfl, by cases p <;> rfl⟩

theorem EncodedLength.dec_c : EncodedLength.Statement .dec_c :=
  fun p _ => ⟨_, _, rfl, by cases p <;> rfl⟩

theorem EncodedLength.dec_d : EncodedLength.Statement .dec_d :=
  fun p _ => ⟨_, _, rfl, by cases p <;> rfl⟩

theorem EncodedLength.dec_e : EncodedLength.Statement .dec_e :=
  fun p _ => ⟨_, _, rfl, by cases p <;> rfl⟩

theorem EncodedLength.dec_h : EncodedLength.Statement .dec_h :=
  fun p _ => ⟨_, _, rfl, by cases p <;> rfl⟩

theorem EncodedLength.dec_l : EncodedLength.Statement .dec_l :=
  fun p _ => ⟨_, _, rfl, by cases p <;> rfl⟩

theorem EncodedLength.dec_a : EncodedLength.Statement .dec_a :=
  fun p _ => ⟨_, _, rfl, by cases p <;> rfl⟩

theorem EncodedLength.dec_atHL : EncodedLength.Statement .dec_atHL :=
  fun p _ => ⟨_, _, rfl, by cases p <;> rfl⟩

theorem EncodedLength.daa : EncodedLength.Statement .daa :=
  fun p _ => ⟨_, _, rfl, by cases p <;> rfl⟩

theorem EncodedLength.cpl : EncodedLength.Statement .cpl :=
  fun p _ => ⟨_, _, rfl, by cases p <;> rfl⟩

theorem EncodedLength.scf : EncodedLength.Statement .scf :=
  fun p _ => ⟨_, _, rfl, by cases p <;> rfl⟩

theorem EncodedLength.ccf : EncodedLength.Statement .ccf :=
  fun p _ => ⟨_, _, rfl, by cases p <;> rfl⟩

theorem EncodedLength.inc_bc : EncodedLength.Statement .inc_bc :=
  fun p _ => ⟨_, _, rfl, by cases p <;> rfl⟩

theorem EncodedLength.inc_de : EncodedLength.Statement .inc_de :=
  fun p _ => ⟨_, _, rfl, by cases p <;> rfl⟩

theorem EncodedLength.inc_hl : EncodedLength.Statement .inc_hl :=
  fun p _ => ⟨_, _, rfl, by cases p <;> rfl⟩

theorem EncodedLength.inc_sp : EncodedLength.Statement .inc_sp :=
  fun p _ => ⟨_, _, rfl, by cases p <;> rfl⟩

theorem EncodedLength.dec_bc : EncodedLength.Statement .dec_bc :=
  fun p _ => ⟨_, _, rfl, by cases p <;> rfl⟩

theorem EncodedLength.dec_de : EncodedLength.Statement .dec_de :=
  fun p _ => ⟨_, _, rfl, by cases p <;> rfl⟩

theorem EncodedLength.dec_hl : EncodedLength.Statement .dec_hl :=
  fun p _ => ⟨_, _, rfl, by cases p <;> rfl⟩

theorem EncodedLength.dec_sp : EncodedLength.Statement .dec_sp :=
  fun p _ => ⟨_, _, rfl, by cases p <;> rfl⟩

theorem EncodedLength.add_hl_bc : EncodedLength.Statement .add_hl_bc :=
  fun p _ => ⟨_, _, rfl, by cases p <;> rfl⟩

theorem EncodedLength.add_hl_de : EncodedLength.Statement .add_hl_de :=
  fun p _ => ⟨_, _, rfl, by cases p <;> rfl⟩

theorem EncodedLength.add_hl_hl : EncodedLength.Statement .add_hl_hl :=
  fun p _ => ⟨_, _, rfl, by cases p <;> rfl⟩

theorem EncodedLength.add_hl_sp : EncodedLength.Statement .add_hl_sp :=
  fun p _ => ⟨_, _, rfl, by cases p <;> rfl⟩

theorem EncodedLength.add_sp_e8 (e : Byte) : EncodedLength.Statement (.add_sp_e8 e) :=
  fun p _ => ⟨_, _, rfl, by cases p <;> rfl⟩

theorem EncodedLength.rlca : EncodedLength.Statement .rlca :=
  fun p _ => ⟨_, _, rfl, by cases p <;> rfl⟩

theorem EncodedLength.rrca : EncodedLength.Statement .rrca :=
  fun p _ => ⟨_, _, rfl, by cases p <;> rfl⟩

theorem EncodedLength.rla : EncodedLength.Statement .rla :=
  fun p _ => ⟨_, _, rfl, by cases p <;> rfl⟩

theorem EncodedLength.rra : EncodedLength.Statement .rra :=
  fun p _ => ⟨_, _, rfl, by cases p <;> rfl⟩

theorem EncodedLength.rlc_b : EncodedLength.Statement .rlc_b :=
  fun p _ => ⟨_, _, rfl, by cases p <;> rfl⟩

theorem EncodedLength.rlc_c : EncodedLength.Statement .rlc_c :=
  fun p _ => ⟨_, _, rfl, by cases p <;> rfl⟩

theorem EncodedLength.rlc_d : EncodedLength.Statement .rlc_d :=
  fun p _ => ⟨_, _, rfl, by cases p <;> rfl⟩

theorem EncodedLength.rlc_e : EncodedLength.Statement .rlc_e :=
  fun p _ => ⟨_, _, rfl, by cases p <;> rfl⟩

theorem EncodedLength.rlc_h : EncodedLength.Statement .rlc_h :=
  fun p _ => ⟨_, _, rfl, by cases p <;> rfl⟩

theorem EncodedLength.rlc_l : EncodedLength.Statement .rlc_l :=
  fun p _ => ⟨_, _, rfl, by cases p <;> rfl⟩

theorem EncodedLength.rlc_atHL : EncodedLength.Statement .rlc_atHL :=
  fun p _ => ⟨_, _, rfl, by cases p <;> rfl⟩

theorem EncodedLength.rlc_a : EncodedLength.Statement .rlc_a :=
  fun p _ => ⟨_, _, rfl, by cases p <;> rfl⟩

theorem EncodedLength.rrc_b : EncodedLength.Statement .rrc_b :=
  fun p _ => ⟨_, _, rfl, by cases p <;> rfl⟩

theorem EncodedLength.rrc_c : EncodedLength.Statement .rrc_c :=
  fun p _ => ⟨_, _, rfl, by cases p <;> rfl⟩

theorem EncodedLength.rrc_d : EncodedLength.Statement .rrc_d :=
  fun p _ => ⟨_, _, rfl, by cases p <;> rfl⟩

theorem EncodedLength.rrc_e : EncodedLength.Statement .rrc_e :=
  fun p _ => ⟨_, _, rfl, by cases p <;> rfl⟩

theorem EncodedLength.rrc_h : EncodedLength.Statement .rrc_h :=
  fun p _ => ⟨_, _, rfl, by cases p <;> rfl⟩

theorem EncodedLength.rrc_l : EncodedLength.Statement .rrc_l :=
  fun p _ => ⟨_, _, rfl, by cases p <;> rfl⟩

theorem EncodedLength.rrc_atHL : EncodedLength.Statement .rrc_atHL :=
  fun p _ => ⟨_, _, rfl, by cases p <;> rfl⟩

theorem EncodedLength.rrc_a : EncodedLength.Statement .rrc_a :=
  fun p _ => ⟨_, _, rfl, by cases p <;> rfl⟩

theorem EncodedLength.rl_b : EncodedLength.Statement .rl_b :=
  fun p _ => ⟨_, _, rfl, by cases p <;> rfl⟩

theorem EncodedLength.rl_c : EncodedLength.Statement .rl_c :=
  fun p _ => ⟨_, _, rfl, by cases p <;> rfl⟩

theorem EncodedLength.rl_d : EncodedLength.Statement .rl_d :=
  fun p _ => ⟨_, _, rfl, by cases p <;> rfl⟩

theorem EncodedLength.rl_e : EncodedLength.Statement .rl_e :=
  fun p _ => ⟨_, _, rfl, by cases p <;> rfl⟩

theorem EncodedLength.rl_h : EncodedLength.Statement .rl_h :=
  fun p _ => ⟨_, _, rfl, by cases p <;> rfl⟩

theorem EncodedLength.rl_l : EncodedLength.Statement .rl_l :=
  fun p _ => ⟨_, _, rfl, by cases p <;> rfl⟩

theorem EncodedLength.rl_atHL : EncodedLength.Statement .rl_atHL :=
  fun p _ => ⟨_, _, rfl, by cases p <;> rfl⟩

theorem EncodedLength.rl_a : EncodedLength.Statement .rl_a :=
  fun p _ => ⟨_, _, rfl, by cases p <;> rfl⟩

theorem EncodedLength.rr_b : EncodedLength.Statement .rr_b :=
  fun p _ => ⟨_, _, rfl, by cases p <;> rfl⟩

theorem EncodedLength.rr_c : EncodedLength.Statement .rr_c :=
  fun p _ => ⟨_, _, rfl, by cases p <;> rfl⟩

theorem EncodedLength.rr_d : EncodedLength.Statement .rr_d :=
  fun p _ => ⟨_, _, rfl, by cases p <;> rfl⟩

theorem EncodedLength.rr_e : EncodedLength.Statement .rr_e :=
  fun p _ => ⟨_, _, rfl, by cases p <;> rfl⟩

theorem EncodedLength.rr_h : EncodedLength.Statement .rr_h :=
  fun p _ => ⟨_, _, rfl, by cases p <;> rfl⟩

theorem EncodedLength.rr_l : EncodedLength.Statement .rr_l :=
  fun p _ => ⟨_, _, rfl, by cases p <;> rfl⟩

theorem EncodedLength.rr_atHL : EncodedLength.Statement .rr_atHL :=
  fun p _ => ⟨_, _, rfl, by cases p <;> rfl⟩

theorem EncodedLength.rr_a : EncodedLength.Statement .rr_a :=
  fun p _ => ⟨_, _, rfl, by cases p <;> rfl⟩

theorem EncodedLength.sla_b : EncodedLength.Statement .sla_b :=
  fun p _ => ⟨_, _, rfl, by cases p <;> rfl⟩

theorem EncodedLength.sla_c : EncodedLength.Statement .sla_c :=
  fun p _ => ⟨_, _, rfl, by cases p <;> rfl⟩

theorem EncodedLength.sla_d : EncodedLength.Statement .sla_d :=
  fun p _ => ⟨_, _, rfl, by cases p <;> rfl⟩

theorem EncodedLength.sla_e : EncodedLength.Statement .sla_e :=
  fun p _ => ⟨_, _, rfl, by cases p <;> rfl⟩

theorem EncodedLength.sla_h : EncodedLength.Statement .sla_h :=
  fun p _ => ⟨_, _, rfl, by cases p <;> rfl⟩

theorem EncodedLength.sla_l : EncodedLength.Statement .sla_l :=
  fun p _ => ⟨_, _, rfl, by cases p <;> rfl⟩

theorem EncodedLength.sla_atHL : EncodedLength.Statement .sla_atHL :=
  fun p _ => ⟨_, _, rfl, by cases p <;> rfl⟩

theorem EncodedLength.sla_a : EncodedLength.Statement .sla_a :=
  fun p _ => ⟨_, _, rfl, by cases p <;> rfl⟩

theorem EncodedLength.sra_b : EncodedLength.Statement .sra_b :=
  fun p _ => ⟨_, _, rfl, by cases p <;> rfl⟩

theorem EncodedLength.sra_c : EncodedLength.Statement .sra_c :=
  fun p _ => ⟨_, _, rfl, by cases p <;> rfl⟩

theorem EncodedLength.sra_d : EncodedLength.Statement .sra_d :=
  fun p _ => ⟨_, _, rfl, by cases p <;> rfl⟩

theorem EncodedLength.sra_e : EncodedLength.Statement .sra_e :=
  fun p _ => ⟨_, _, rfl, by cases p <;> rfl⟩

theorem EncodedLength.sra_h : EncodedLength.Statement .sra_h :=
  fun p _ => ⟨_, _, rfl, by cases p <;> rfl⟩

theorem EncodedLength.sra_l : EncodedLength.Statement .sra_l :=
  fun p _ => ⟨_, _, rfl, by cases p <;> rfl⟩

theorem EncodedLength.sra_atHL : EncodedLength.Statement .sra_atHL :=
  fun p _ => ⟨_, _, rfl, by cases p <;> rfl⟩

theorem EncodedLength.sra_a : EncodedLength.Statement .sra_a :=
  fun p _ => ⟨_, _, rfl, by cases p <;> rfl⟩

theorem EncodedLength.swap_b : EncodedLength.Statement .swap_b :=
  fun p _ => ⟨_, _, rfl, by cases p <;> rfl⟩

theorem EncodedLength.swap_c : EncodedLength.Statement .swap_c :=
  fun p _ => ⟨_, _, rfl, by cases p <;> rfl⟩

theorem EncodedLength.swap_d : EncodedLength.Statement .swap_d :=
  fun p _ => ⟨_, _, rfl, by cases p <;> rfl⟩

theorem EncodedLength.swap_e : EncodedLength.Statement .swap_e :=
  fun p _ => ⟨_, _, rfl, by cases p <;> rfl⟩

theorem EncodedLength.swap_h : EncodedLength.Statement .swap_h :=
  fun p _ => ⟨_, _, rfl, by cases p <;> rfl⟩

theorem EncodedLength.swap_l : EncodedLength.Statement .swap_l :=
  fun p _ => ⟨_, _, rfl, by cases p <;> rfl⟩

theorem EncodedLength.swap_atHL : EncodedLength.Statement .swap_atHL :=
  fun p _ => ⟨_, _, rfl, by cases p <;> rfl⟩

theorem EncodedLength.swap_a : EncodedLength.Statement .swap_a :=
  fun p _ => ⟨_, _, rfl, by cases p <;> rfl⟩

theorem EncodedLength.srl_b : EncodedLength.Statement .srl_b :=
  fun p _ => ⟨_, _, rfl, by cases p <;> rfl⟩

theorem EncodedLength.srl_c : EncodedLength.Statement .srl_c :=
  fun p _ => ⟨_, _, rfl, by cases p <;> rfl⟩

theorem EncodedLength.srl_d : EncodedLength.Statement .srl_d :=
  fun p _ => ⟨_, _, rfl, by cases p <;> rfl⟩

theorem EncodedLength.srl_e : EncodedLength.Statement .srl_e :=
  fun p _ => ⟨_, _, rfl, by cases p <;> rfl⟩

theorem EncodedLength.srl_h : EncodedLength.Statement .srl_h :=
  fun p _ => ⟨_, _, rfl, by cases p <;> rfl⟩

theorem EncodedLength.srl_l : EncodedLength.Statement .srl_l :=
  fun p _ => ⟨_, _, rfl, by cases p <;> rfl⟩

theorem EncodedLength.srl_atHL : EncodedLength.Statement .srl_atHL :=
  fun p _ => ⟨_, _, rfl, by cases p <;> rfl⟩

theorem EncodedLength.srl_a : EncodedLength.Statement .srl_a :=
  fun p _ => ⟨_, _, rfl, by cases p <;> rfl⟩

theorem EncodedLength.bit_0_b : EncodedLength.Statement .bit_0_b :=
  fun p _ => ⟨_, _, rfl, by cases p <;> rfl⟩

theorem EncodedLength.bit_0_c : EncodedLength.Statement .bit_0_c :=
  fun p _ => ⟨_, _, rfl, by cases p <;> rfl⟩

theorem EncodedLength.bit_0_d : EncodedLength.Statement .bit_0_d :=
  fun p _ => ⟨_, _, rfl, by cases p <;> rfl⟩

theorem EncodedLength.bit_0_e : EncodedLength.Statement .bit_0_e :=
  fun p _ => ⟨_, _, rfl, by cases p <;> rfl⟩

theorem EncodedLength.bit_0_h : EncodedLength.Statement .bit_0_h :=
  fun p _ => ⟨_, _, rfl, by cases p <;> rfl⟩

theorem EncodedLength.bit_0_l : EncodedLength.Statement .bit_0_l :=
  fun p _ => ⟨_, _, rfl, by cases p <;> rfl⟩

theorem EncodedLength.bit_0_atHL : EncodedLength.Statement .bit_0_atHL :=
  fun p _ => ⟨_, _, rfl, by cases p <;> rfl⟩

theorem EncodedLength.bit_0_a : EncodedLength.Statement .bit_0_a :=
  fun p _ => ⟨_, _, rfl, by cases p <;> rfl⟩

theorem EncodedLength.bit_1_b : EncodedLength.Statement .bit_1_b :=
  fun p _ => ⟨_, _, rfl, by cases p <;> rfl⟩

theorem EncodedLength.bit_1_c : EncodedLength.Statement .bit_1_c :=
  fun p _ => ⟨_, _, rfl, by cases p <;> rfl⟩

theorem EncodedLength.bit_1_d : EncodedLength.Statement .bit_1_d :=
  fun p _ => ⟨_, _, rfl, by cases p <;> rfl⟩

theorem EncodedLength.bit_1_e : EncodedLength.Statement .bit_1_e :=
  fun p _ => ⟨_, _, rfl, by cases p <;> rfl⟩

theorem EncodedLength.bit_1_h : EncodedLength.Statement .bit_1_h :=
  fun p _ => ⟨_, _, rfl, by cases p <;> rfl⟩

theorem EncodedLength.bit_1_l : EncodedLength.Statement .bit_1_l :=
  fun p _ => ⟨_, _, rfl, by cases p <;> rfl⟩

theorem EncodedLength.bit_1_atHL : EncodedLength.Statement .bit_1_atHL :=
  fun p _ => ⟨_, _, rfl, by cases p <;> rfl⟩

theorem EncodedLength.bit_1_a : EncodedLength.Statement .bit_1_a :=
  fun p _ => ⟨_, _, rfl, by cases p <;> rfl⟩

theorem EncodedLength.bit_2_b : EncodedLength.Statement .bit_2_b :=
  fun p _ => ⟨_, _, rfl, by cases p <;> rfl⟩

theorem EncodedLength.bit_2_c : EncodedLength.Statement .bit_2_c :=
  fun p _ => ⟨_, _, rfl, by cases p <;> rfl⟩

theorem EncodedLength.bit_2_d : EncodedLength.Statement .bit_2_d :=
  fun p _ => ⟨_, _, rfl, by cases p <;> rfl⟩

theorem EncodedLength.bit_2_e : EncodedLength.Statement .bit_2_e :=
  fun p _ => ⟨_, _, rfl, by cases p <;> rfl⟩

theorem EncodedLength.bit_2_h : EncodedLength.Statement .bit_2_h :=
  fun p _ => ⟨_, _, rfl, by cases p <;> rfl⟩

theorem EncodedLength.bit_2_l : EncodedLength.Statement .bit_2_l :=
  fun p _ => ⟨_, _, rfl, by cases p <;> rfl⟩

theorem EncodedLength.bit_2_atHL : EncodedLength.Statement .bit_2_atHL :=
  fun p _ => ⟨_, _, rfl, by cases p <;> rfl⟩

theorem EncodedLength.bit_2_a : EncodedLength.Statement .bit_2_a :=
  fun p _ => ⟨_, _, rfl, by cases p <;> rfl⟩

theorem EncodedLength.bit_3_b : EncodedLength.Statement .bit_3_b :=
  fun p _ => ⟨_, _, rfl, by cases p <;> rfl⟩

theorem EncodedLength.bit_3_c : EncodedLength.Statement .bit_3_c :=
  fun p _ => ⟨_, _, rfl, by cases p <;> rfl⟩

theorem EncodedLength.bit_3_d : EncodedLength.Statement .bit_3_d :=
  fun p _ => ⟨_, _, rfl, by cases p <;> rfl⟩

theorem EncodedLength.bit_3_e : EncodedLength.Statement .bit_3_e :=
  fun p _ => ⟨_, _, rfl, by cases p <;> rfl⟩

theorem EncodedLength.bit_3_h : EncodedLength.Statement .bit_3_h :=
  fun p _ => ⟨_, _, rfl, by cases p <;> rfl⟩

theorem EncodedLength.bit_3_l : EncodedLength.Statement .bit_3_l :=
  fun p _ => ⟨_, _, rfl, by cases p <;> rfl⟩

theorem EncodedLength.bit_3_atHL : EncodedLength.Statement .bit_3_atHL :=
  fun p _ => ⟨_, _, rfl, by cases p <;> rfl⟩

theorem EncodedLength.bit_3_a : EncodedLength.Statement .bit_3_a :=
  fun p _ => ⟨_, _, rfl, by cases p <;> rfl⟩

theorem EncodedLength.bit_4_b : EncodedLength.Statement .bit_4_b :=
  fun p _ => ⟨_, _, rfl, by cases p <;> rfl⟩

theorem EncodedLength.bit_4_c : EncodedLength.Statement .bit_4_c :=
  fun p _ => ⟨_, _, rfl, by cases p <;> rfl⟩

theorem EncodedLength.bit_4_d : EncodedLength.Statement .bit_4_d :=
  fun p _ => ⟨_, _, rfl, by cases p <;> rfl⟩

theorem EncodedLength.bit_4_e : EncodedLength.Statement .bit_4_e :=
  fun p _ => ⟨_, _, rfl, by cases p <;> rfl⟩

theorem EncodedLength.bit_4_h : EncodedLength.Statement .bit_4_h :=
  fun p _ => ⟨_, _, rfl, by cases p <;> rfl⟩

theorem EncodedLength.bit_4_l : EncodedLength.Statement .bit_4_l :=
  fun p _ => ⟨_, _, rfl, by cases p <;> rfl⟩

theorem EncodedLength.bit_4_atHL : EncodedLength.Statement .bit_4_atHL :=
  fun p _ => ⟨_, _, rfl, by cases p <;> rfl⟩

theorem EncodedLength.bit_4_a : EncodedLength.Statement .bit_4_a :=
  fun p _ => ⟨_, _, rfl, by cases p <;> rfl⟩

theorem EncodedLength.bit_5_b : EncodedLength.Statement .bit_5_b :=
  fun p _ => ⟨_, _, rfl, by cases p <;> rfl⟩

theorem EncodedLength.bit_5_c : EncodedLength.Statement .bit_5_c :=
  fun p _ => ⟨_, _, rfl, by cases p <;> rfl⟩

theorem EncodedLength.bit_5_d : EncodedLength.Statement .bit_5_d :=
  fun p _ => ⟨_, _, rfl, by cases p <;> rfl⟩

theorem EncodedLength.bit_5_e : EncodedLength.Statement .bit_5_e :=
  fun p _ => ⟨_, _, rfl, by cases p <;> rfl⟩

theorem EncodedLength.bit_5_h : EncodedLength.Statement .bit_5_h :=
  fun p _ => ⟨_, _, rfl, by cases p <;> rfl⟩

theorem EncodedLength.bit_5_l : EncodedLength.Statement .bit_5_l :=
  fun p _ => ⟨_, _, rfl, by cases p <;> rfl⟩

theorem EncodedLength.bit_5_atHL : EncodedLength.Statement .bit_5_atHL :=
  fun p _ => ⟨_, _, rfl, by cases p <;> rfl⟩

theorem EncodedLength.bit_5_a : EncodedLength.Statement .bit_5_a :=
  fun p _ => ⟨_, _, rfl, by cases p <;> rfl⟩

theorem EncodedLength.bit_6_b : EncodedLength.Statement .bit_6_b :=
  fun p _ => ⟨_, _, rfl, by cases p <;> rfl⟩

theorem EncodedLength.bit_6_c : EncodedLength.Statement .bit_6_c :=
  fun p _ => ⟨_, _, rfl, by cases p <;> rfl⟩

theorem EncodedLength.bit_6_d : EncodedLength.Statement .bit_6_d :=
  fun p _ => ⟨_, _, rfl, by cases p <;> rfl⟩

theorem EncodedLength.bit_6_e : EncodedLength.Statement .bit_6_e :=
  fun p _ => ⟨_, _, rfl, by cases p <;> rfl⟩

theorem EncodedLength.bit_6_h : EncodedLength.Statement .bit_6_h :=
  fun p _ => ⟨_, _, rfl, by cases p <;> rfl⟩

theorem EncodedLength.bit_6_l : EncodedLength.Statement .bit_6_l :=
  fun p _ => ⟨_, _, rfl, by cases p <;> rfl⟩

theorem EncodedLength.bit_6_atHL : EncodedLength.Statement .bit_6_atHL :=
  fun p _ => ⟨_, _, rfl, by cases p <;> rfl⟩

theorem EncodedLength.bit_6_a : EncodedLength.Statement .bit_6_a :=
  fun p _ => ⟨_, _, rfl, by cases p <;> rfl⟩

theorem EncodedLength.bit_7_b : EncodedLength.Statement .bit_7_b :=
  fun p _ => ⟨_, _, rfl, by cases p <;> rfl⟩

theorem EncodedLength.bit_7_c : EncodedLength.Statement .bit_7_c :=
  fun p _ => ⟨_, _, rfl, by cases p <;> rfl⟩

theorem EncodedLength.bit_7_d : EncodedLength.Statement .bit_7_d :=
  fun p _ => ⟨_, _, rfl, by cases p <;> rfl⟩

theorem EncodedLength.bit_7_e : EncodedLength.Statement .bit_7_e :=
  fun p _ => ⟨_, _, rfl, by cases p <;> rfl⟩

theorem EncodedLength.bit_7_h : EncodedLength.Statement .bit_7_h :=
  fun p _ => ⟨_, _, rfl, by cases p <;> rfl⟩

theorem EncodedLength.bit_7_l : EncodedLength.Statement .bit_7_l :=
  fun p _ => ⟨_, _, rfl, by cases p <;> rfl⟩

theorem EncodedLength.bit_7_atHL : EncodedLength.Statement .bit_7_atHL :=
  fun p _ => ⟨_, _, rfl, by cases p <;> rfl⟩

theorem EncodedLength.bit_7_a : EncodedLength.Statement .bit_7_a :=
  fun p _ => ⟨_, _, rfl, by cases p <;> rfl⟩

theorem EncodedLength.res_0_b : EncodedLength.Statement .res_0_b :=
  fun p _ => ⟨_, _, rfl, by cases p <;> rfl⟩

theorem EncodedLength.res_0_c : EncodedLength.Statement .res_0_c :=
  fun p _ => ⟨_, _, rfl, by cases p <;> rfl⟩

theorem EncodedLength.res_0_d : EncodedLength.Statement .res_0_d :=
  fun p _ => ⟨_, _, rfl, by cases p <;> rfl⟩

theorem EncodedLength.res_0_e : EncodedLength.Statement .res_0_e :=
  fun p _ => ⟨_, _, rfl, by cases p <;> rfl⟩

theorem EncodedLength.res_0_h : EncodedLength.Statement .res_0_h :=
  fun p _ => ⟨_, _, rfl, by cases p <;> rfl⟩

theorem EncodedLength.res_0_l : EncodedLength.Statement .res_0_l :=
  fun p _ => ⟨_, _, rfl, by cases p <;> rfl⟩

theorem EncodedLength.res_0_atHL : EncodedLength.Statement .res_0_atHL :=
  fun p _ => ⟨_, _, rfl, by cases p <;> rfl⟩

theorem EncodedLength.res_0_a : EncodedLength.Statement .res_0_a :=
  fun p _ => ⟨_, _, rfl, by cases p <;> rfl⟩

theorem EncodedLength.res_1_b : EncodedLength.Statement .res_1_b :=
  fun p _ => ⟨_, _, rfl, by cases p <;> rfl⟩

theorem EncodedLength.res_1_c : EncodedLength.Statement .res_1_c :=
  fun p _ => ⟨_, _, rfl, by cases p <;> rfl⟩

theorem EncodedLength.res_1_d : EncodedLength.Statement .res_1_d :=
  fun p _ => ⟨_, _, rfl, by cases p <;> rfl⟩

theorem EncodedLength.res_1_e : EncodedLength.Statement .res_1_e :=
  fun p _ => ⟨_, _, rfl, by cases p <;> rfl⟩

theorem EncodedLength.res_1_h : EncodedLength.Statement .res_1_h :=
  fun p _ => ⟨_, _, rfl, by cases p <;> rfl⟩

theorem EncodedLength.res_1_l : EncodedLength.Statement .res_1_l :=
  fun p _ => ⟨_, _, rfl, by cases p <;> rfl⟩

theorem EncodedLength.res_1_atHL : EncodedLength.Statement .res_1_atHL :=
  fun p _ => ⟨_, _, rfl, by cases p <;> rfl⟩

theorem EncodedLength.res_1_a : EncodedLength.Statement .res_1_a :=
  fun p _ => ⟨_, _, rfl, by cases p <;> rfl⟩

theorem EncodedLength.res_2_b : EncodedLength.Statement .res_2_b :=
  fun p _ => ⟨_, _, rfl, by cases p <;> rfl⟩

theorem EncodedLength.res_2_c : EncodedLength.Statement .res_2_c :=
  fun p _ => ⟨_, _, rfl, by cases p <;> rfl⟩

theorem EncodedLength.res_2_d : EncodedLength.Statement .res_2_d :=
  fun p _ => ⟨_, _, rfl, by cases p <;> rfl⟩

theorem EncodedLength.res_2_e : EncodedLength.Statement .res_2_e :=
  fun p _ => ⟨_, _, rfl, by cases p <;> rfl⟩

theorem EncodedLength.res_2_h : EncodedLength.Statement .res_2_h :=
  fun p _ => ⟨_, _, rfl, by cases p <;> rfl⟩

theorem EncodedLength.res_2_l : EncodedLength.Statement .res_2_l :=
  fun p _ => ⟨_, _, rfl, by cases p <;> rfl⟩

theorem EncodedLength.res_2_atHL : EncodedLength.Statement .res_2_atHL :=
  fun p _ => ⟨_, _, rfl, by cases p <;> rfl⟩

theorem EncodedLength.res_2_a : EncodedLength.Statement .res_2_a :=
  fun p _ => ⟨_, _, rfl, by cases p <;> rfl⟩

theorem EncodedLength.res_3_b : EncodedLength.Statement .res_3_b :=
  fun p _ => ⟨_, _, rfl, by cases p <;> rfl⟩

theorem EncodedLength.res_3_c : EncodedLength.Statement .res_3_c :=
  fun p _ => ⟨_, _, rfl, by cases p <;> rfl⟩

theorem EncodedLength.res_3_d : EncodedLength.Statement .res_3_d :=
  fun p _ => ⟨_, _, rfl, by cases p <;> rfl⟩

theorem EncodedLength.res_3_e : EncodedLength.Statement .res_3_e :=
  fun p _ => ⟨_, _, rfl, by cases p <;> rfl⟩

theorem EncodedLength.res_3_h : EncodedLength.Statement .res_3_h :=
  fun p _ => ⟨_, _, rfl, by cases p <;> rfl⟩

theorem EncodedLength.res_3_l : EncodedLength.Statement .res_3_l :=
  fun p _ => ⟨_, _, rfl, by cases p <;> rfl⟩

theorem EncodedLength.res_3_atHL : EncodedLength.Statement .res_3_atHL :=
  fun p _ => ⟨_, _, rfl, by cases p <;> rfl⟩

theorem EncodedLength.res_3_a : EncodedLength.Statement .res_3_a :=
  fun p _ => ⟨_, _, rfl, by cases p <;> rfl⟩

theorem EncodedLength.res_4_b : EncodedLength.Statement .res_4_b :=
  fun p _ => ⟨_, _, rfl, by cases p <;> rfl⟩

theorem EncodedLength.res_4_c : EncodedLength.Statement .res_4_c :=
  fun p _ => ⟨_, _, rfl, by cases p <;> rfl⟩

theorem EncodedLength.res_4_d : EncodedLength.Statement .res_4_d :=
  fun p _ => ⟨_, _, rfl, by cases p <;> rfl⟩

theorem EncodedLength.res_4_e : EncodedLength.Statement .res_4_e :=
  fun p _ => ⟨_, _, rfl, by cases p <;> rfl⟩

theorem EncodedLength.res_4_h : EncodedLength.Statement .res_4_h :=
  fun p _ => ⟨_, _, rfl, by cases p <;> rfl⟩

theorem EncodedLength.res_4_l : EncodedLength.Statement .res_4_l :=
  fun p _ => ⟨_, _, rfl, by cases p <;> rfl⟩

theorem EncodedLength.res_4_atHL : EncodedLength.Statement .res_4_atHL :=
  fun p _ => ⟨_, _, rfl, by cases p <;> rfl⟩

theorem EncodedLength.res_4_a : EncodedLength.Statement .res_4_a :=
  fun p _ => ⟨_, _, rfl, by cases p <;> rfl⟩

theorem EncodedLength.res_5_b : EncodedLength.Statement .res_5_b :=
  fun p _ => ⟨_, _, rfl, by cases p <;> rfl⟩

theorem EncodedLength.res_5_c : EncodedLength.Statement .res_5_c :=
  fun p _ => ⟨_, _, rfl, by cases p <;> rfl⟩

theorem EncodedLength.res_5_d : EncodedLength.Statement .res_5_d :=
  fun p _ => ⟨_, _, rfl, by cases p <;> rfl⟩

theorem EncodedLength.res_5_e : EncodedLength.Statement .res_5_e :=
  fun p _ => ⟨_, _, rfl, by cases p <;> rfl⟩

theorem EncodedLength.res_5_h : EncodedLength.Statement .res_5_h :=
  fun p _ => ⟨_, _, rfl, by cases p <;> rfl⟩

theorem EncodedLength.res_5_l : EncodedLength.Statement .res_5_l :=
  fun p _ => ⟨_, _, rfl, by cases p <;> rfl⟩

theorem EncodedLength.res_5_atHL : EncodedLength.Statement .res_5_atHL :=
  fun p _ => ⟨_, _, rfl, by cases p <;> rfl⟩

theorem EncodedLength.res_5_a : EncodedLength.Statement .res_5_a :=
  fun p _ => ⟨_, _, rfl, by cases p <;> rfl⟩

theorem EncodedLength.res_6_b : EncodedLength.Statement .res_6_b :=
  fun p _ => ⟨_, _, rfl, by cases p <;> rfl⟩

theorem EncodedLength.res_6_c : EncodedLength.Statement .res_6_c :=
  fun p _ => ⟨_, _, rfl, by cases p <;> rfl⟩

theorem EncodedLength.res_6_d : EncodedLength.Statement .res_6_d :=
  fun p _ => ⟨_, _, rfl, by cases p <;> rfl⟩

theorem EncodedLength.res_6_e : EncodedLength.Statement .res_6_e :=
  fun p _ => ⟨_, _, rfl, by cases p <;> rfl⟩

theorem EncodedLength.res_6_h : EncodedLength.Statement .res_6_h :=
  fun p _ => ⟨_, _, rfl, by cases p <;> rfl⟩

theorem EncodedLength.res_6_l : EncodedLength.Statement .res_6_l :=
  fun p _ => ⟨_, _, rfl, by cases p <;> rfl⟩

theorem EncodedLength.res_6_atHL : EncodedLength.Statement .res_6_atHL :=
  fun p _ => ⟨_, _, rfl, by cases p <;> rfl⟩

theorem EncodedLength.res_6_a : EncodedLength.Statement .res_6_a :=
  fun p _ => ⟨_, _, rfl, by cases p <;> rfl⟩

theorem EncodedLength.res_7_b : EncodedLength.Statement .res_7_b :=
  fun p _ => ⟨_, _, rfl, by cases p <;> rfl⟩

theorem EncodedLength.res_7_c : EncodedLength.Statement .res_7_c :=
  fun p _ => ⟨_, _, rfl, by cases p <;> rfl⟩

theorem EncodedLength.res_7_d : EncodedLength.Statement .res_7_d :=
  fun p _ => ⟨_, _, rfl, by cases p <;> rfl⟩

theorem EncodedLength.res_7_e : EncodedLength.Statement .res_7_e :=
  fun p _ => ⟨_, _, rfl, by cases p <;> rfl⟩

theorem EncodedLength.res_7_h : EncodedLength.Statement .res_7_h :=
  fun p _ => ⟨_, _, rfl, by cases p <;> rfl⟩

theorem EncodedLength.res_7_l : EncodedLength.Statement .res_7_l :=
  fun p _ => ⟨_, _, rfl, by cases p <;> rfl⟩

theorem EncodedLength.res_7_atHL : EncodedLength.Statement .res_7_atHL :=
  fun p _ => ⟨_, _, rfl, by cases p <;> rfl⟩

theorem EncodedLength.res_7_a : EncodedLength.Statement .res_7_a :=
  fun p _ => ⟨_, _, rfl, by cases p <;> rfl⟩

theorem EncodedLength.set_0_b : EncodedLength.Statement .set_0_b :=
  fun p _ => ⟨_, _, rfl, by cases p <;> rfl⟩

theorem EncodedLength.set_0_c : EncodedLength.Statement .set_0_c :=
  fun p _ => ⟨_, _, rfl, by cases p <;> rfl⟩

theorem EncodedLength.set_0_d : EncodedLength.Statement .set_0_d :=
  fun p _ => ⟨_, _, rfl, by cases p <;> rfl⟩

theorem EncodedLength.set_0_e : EncodedLength.Statement .set_0_e :=
  fun p _ => ⟨_, _, rfl, by cases p <;> rfl⟩

theorem EncodedLength.set_0_h : EncodedLength.Statement .set_0_h :=
  fun p _ => ⟨_, _, rfl, by cases p <;> rfl⟩

theorem EncodedLength.set_0_l : EncodedLength.Statement .set_0_l :=
  fun p _ => ⟨_, _, rfl, by cases p <;> rfl⟩

theorem EncodedLength.set_0_atHL : EncodedLength.Statement .set_0_atHL :=
  fun p _ => ⟨_, _, rfl, by cases p <;> rfl⟩

theorem EncodedLength.set_0_a : EncodedLength.Statement .set_0_a :=
  fun p _ => ⟨_, _, rfl, by cases p <;> rfl⟩

theorem EncodedLength.set_1_b : EncodedLength.Statement .set_1_b :=
  fun p _ => ⟨_, _, rfl, by cases p <;> rfl⟩

theorem EncodedLength.set_1_c : EncodedLength.Statement .set_1_c :=
  fun p _ => ⟨_, _, rfl, by cases p <;> rfl⟩

theorem EncodedLength.set_1_d : EncodedLength.Statement .set_1_d :=
  fun p _ => ⟨_, _, rfl, by cases p <;> rfl⟩

theorem EncodedLength.set_1_e : EncodedLength.Statement .set_1_e :=
  fun p _ => ⟨_, _, rfl, by cases p <;> rfl⟩

theorem EncodedLength.set_1_h : EncodedLength.Statement .set_1_h :=
  fun p _ => ⟨_, _, rfl, by cases p <;> rfl⟩

theorem EncodedLength.set_1_l : EncodedLength.Statement .set_1_l :=
  fun p _ => ⟨_, _, rfl, by cases p <;> rfl⟩

theorem EncodedLength.set_1_atHL : EncodedLength.Statement .set_1_atHL :=
  fun p _ => ⟨_, _, rfl, by cases p <;> rfl⟩

theorem EncodedLength.set_1_a : EncodedLength.Statement .set_1_a :=
  fun p _ => ⟨_, _, rfl, by cases p <;> rfl⟩

theorem EncodedLength.set_2_b : EncodedLength.Statement .set_2_b :=
  fun p _ => ⟨_, _, rfl, by cases p <;> rfl⟩

theorem EncodedLength.set_2_c : EncodedLength.Statement .set_2_c :=
  fun p _ => ⟨_, _, rfl, by cases p <;> rfl⟩

theorem EncodedLength.set_2_d : EncodedLength.Statement .set_2_d :=
  fun p _ => ⟨_, _, rfl, by cases p <;> rfl⟩

theorem EncodedLength.set_2_e : EncodedLength.Statement .set_2_e :=
  fun p _ => ⟨_, _, rfl, by cases p <;> rfl⟩

theorem EncodedLength.set_2_h : EncodedLength.Statement .set_2_h :=
  fun p _ => ⟨_, _, rfl, by cases p <;> rfl⟩

theorem EncodedLength.set_2_l : EncodedLength.Statement .set_2_l :=
  fun p _ => ⟨_, _, rfl, by cases p <;> rfl⟩

theorem EncodedLength.set_2_atHL : EncodedLength.Statement .set_2_atHL :=
  fun p _ => ⟨_, _, rfl, by cases p <;> rfl⟩

theorem EncodedLength.set_2_a : EncodedLength.Statement .set_2_a :=
  fun p _ => ⟨_, _, rfl, by cases p <;> rfl⟩

theorem EncodedLength.set_3_b : EncodedLength.Statement .set_3_b :=
  fun p _ => ⟨_, _, rfl, by cases p <;> rfl⟩

theorem EncodedLength.set_3_c : EncodedLength.Statement .set_3_c :=
  fun p _ => ⟨_, _, rfl, by cases p <;> rfl⟩

theorem EncodedLength.set_3_d : EncodedLength.Statement .set_3_d :=
  fun p _ => ⟨_, _, rfl, by cases p <;> rfl⟩

theorem EncodedLength.set_3_e : EncodedLength.Statement .set_3_e :=
  fun p _ => ⟨_, _, rfl, by cases p <;> rfl⟩

theorem EncodedLength.set_3_h : EncodedLength.Statement .set_3_h :=
  fun p _ => ⟨_, _, rfl, by cases p <;> rfl⟩

theorem EncodedLength.set_3_l : EncodedLength.Statement .set_3_l :=
  fun p _ => ⟨_, _, rfl, by cases p <;> rfl⟩

theorem EncodedLength.set_3_atHL : EncodedLength.Statement .set_3_atHL :=
  fun p _ => ⟨_, _, rfl, by cases p <;> rfl⟩

theorem EncodedLength.set_3_a : EncodedLength.Statement .set_3_a :=
  fun p _ => ⟨_, _, rfl, by cases p <;> rfl⟩

theorem EncodedLength.set_4_b : EncodedLength.Statement .set_4_b :=
  fun p _ => ⟨_, _, rfl, by cases p <;> rfl⟩

theorem EncodedLength.set_4_c : EncodedLength.Statement .set_4_c :=
  fun p _ => ⟨_, _, rfl, by cases p <;> rfl⟩

theorem EncodedLength.set_4_d : EncodedLength.Statement .set_4_d :=
  fun p _ => ⟨_, _, rfl, by cases p <;> rfl⟩

theorem EncodedLength.set_4_e : EncodedLength.Statement .set_4_e :=
  fun p _ => ⟨_, _, rfl, by cases p <;> rfl⟩

theorem EncodedLength.set_4_h : EncodedLength.Statement .set_4_h :=
  fun p _ => ⟨_, _, rfl, by cases p <;> rfl⟩

theorem EncodedLength.set_4_l : EncodedLength.Statement .set_4_l :=
  fun p _ => ⟨_, _, rfl, by cases p <;> rfl⟩

theorem EncodedLength.set_4_atHL : EncodedLength.Statement .set_4_atHL :=
  fun p _ => ⟨_, _, rfl, by cases p <;> rfl⟩

theorem EncodedLength.set_4_a : EncodedLength.Statement .set_4_a :=
  fun p _ => ⟨_, _, rfl, by cases p <;> rfl⟩

theorem EncodedLength.set_5_b : EncodedLength.Statement .set_5_b :=
  fun p _ => ⟨_, _, rfl, by cases p <;> rfl⟩

theorem EncodedLength.set_5_c : EncodedLength.Statement .set_5_c :=
  fun p _ => ⟨_, _, rfl, by cases p <;> rfl⟩

theorem EncodedLength.set_5_d : EncodedLength.Statement .set_5_d :=
  fun p _ => ⟨_, _, rfl, by cases p <;> rfl⟩

theorem EncodedLength.set_5_e : EncodedLength.Statement .set_5_e :=
  fun p _ => ⟨_, _, rfl, by cases p <;> rfl⟩

theorem EncodedLength.set_5_h : EncodedLength.Statement .set_5_h :=
  fun p _ => ⟨_, _, rfl, by cases p <;> rfl⟩

theorem EncodedLength.set_5_l : EncodedLength.Statement .set_5_l :=
  fun p _ => ⟨_, _, rfl, by cases p <;> rfl⟩

theorem EncodedLength.set_5_atHL : EncodedLength.Statement .set_5_atHL :=
  fun p _ => ⟨_, _, rfl, by cases p <;> rfl⟩

theorem EncodedLength.set_5_a : EncodedLength.Statement .set_5_a :=
  fun p _ => ⟨_, _, rfl, by cases p <;> rfl⟩

theorem EncodedLength.set_6_b : EncodedLength.Statement .set_6_b :=
  fun p _ => ⟨_, _, rfl, by cases p <;> rfl⟩

theorem EncodedLength.set_6_c : EncodedLength.Statement .set_6_c :=
  fun p _ => ⟨_, _, rfl, by cases p <;> rfl⟩

theorem EncodedLength.set_6_d : EncodedLength.Statement .set_6_d :=
  fun p _ => ⟨_, _, rfl, by cases p <;> rfl⟩

theorem EncodedLength.set_6_e : EncodedLength.Statement .set_6_e :=
  fun p _ => ⟨_, _, rfl, by cases p <;> rfl⟩

theorem EncodedLength.set_6_h : EncodedLength.Statement .set_6_h :=
  fun p _ => ⟨_, _, rfl, by cases p <;> rfl⟩

theorem EncodedLength.set_6_l : EncodedLength.Statement .set_6_l :=
  fun p _ => ⟨_, _, rfl, by cases p <;> rfl⟩

theorem EncodedLength.set_6_atHL : EncodedLength.Statement .set_6_atHL :=
  fun p _ => ⟨_, _, rfl, by cases p <;> rfl⟩

theorem EncodedLength.set_6_a : EncodedLength.Statement .set_6_a :=
  fun p _ => ⟨_, _, rfl, by cases p <;> rfl⟩

theorem EncodedLength.set_7_b : EncodedLength.Statement .set_7_b :=
  fun p _ => ⟨_, _, rfl, by cases p <;> rfl⟩

theorem EncodedLength.set_7_c : EncodedLength.Statement .set_7_c :=
  fun p _ => ⟨_, _, rfl, by cases p <;> rfl⟩

theorem EncodedLength.set_7_d : EncodedLength.Statement .set_7_d :=
  fun p _ => ⟨_, _, rfl, by cases p <;> rfl⟩

theorem EncodedLength.set_7_e : EncodedLength.Statement .set_7_e :=
  fun p _ => ⟨_, _, rfl, by cases p <;> rfl⟩

theorem EncodedLength.set_7_h : EncodedLength.Statement .set_7_h :=
  fun p _ => ⟨_, _, rfl, by cases p <;> rfl⟩

theorem EncodedLength.set_7_l : EncodedLength.Statement .set_7_l :=
  fun p _ => ⟨_, _, rfl, by cases p <;> rfl⟩

theorem EncodedLength.set_7_atHL : EncodedLength.Statement .set_7_atHL :=
  fun p _ => ⟨_, _, rfl, by cases p <;> rfl⟩

theorem EncodedLength.set_7_a : EncodedLength.Statement .set_7_a :=
  fun p _ => ⟨_, _, rfl, by cases p <;> rfl⟩

theorem EncodedLength.jp_n16 (n : Word) : EncodedLength.Statement (.jp_n16 n) :=
  fun p _ => ⟨_, _, rfl, by cases p <;> rfl⟩

theorem EncodedLength.jp_nz_n16 (n : Word) : EncodedLength.Statement (.jp_nz_n16 n) :=
  fun p _ => ⟨_, _, rfl, by cases p <;> rfl⟩

theorem EncodedLength.jp_z_n16 (n : Word) : EncodedLength.Statement (.jp_z_n16 n) :=
  fun p _ => ⟨_, _, rfl, by cases p <;> rfl⟩

theorem EncodedLength.jp_nc_n16 (n : Word) : EncodedLength.Statement (.jp_nc_n16 n) :=
  fun p _ => ⟨_, _, rfl, by cases p <;> rfl⟩

theorem EncodedLength.jp_c_n16 (n : Word) : EncodedLength.Statement (.jp_c_n16 n) :=
  fun p _ => ⟨_, _, rfl, by cases p <;> rfl⟩

theorem EncodedLength.jp_hl : EncodedLength.Statement .jp_hl :=
  fun p _ => ⟨_, _, rfl, by cases p <;> rfl⟩

theorem EncodedLength.jr_e8 (e : Byte) : EncodedLength.Statement (.jr_e8 e) :=
  fun p _ => ⟨_, _, rfl, by cases p <;> rfl⟩

theorem EncodedLength.jr_nz_e8 (e : Byte) : EncodedLength.Statement (.jr_nz_e8 e) :=
  fun p _ => ⟨_, _, rfl, by cases p <;> rfl⟩

theorem EncodedLength.jr_z_e8 (e : Byte) : EncodedLength.Statement (.jr_z_e8 e) :=
  fun p _ => ⟨_, _, rfl, by cases p <;> rfl⟩

theorem EncodedLength.jr_nc_e8 (e : Byte) : EncodedLength.Statement (.jr_nc_e8 e) :=
  fun p _ => ⟨_, _, rfl, by cases p <;> rfl⟩

theorem EncodedLength.jr_c_e8 (e : Byte) : EncodedLength.Statement (.jr_c_e8 e) :=
  fun p _ => ⟨_, _, rfl, by cases p <;> rfl⟩

theorem EncodedLength.call_n16 (n : Word) : EncodedLength.Statement (.call_n16 n) :=
  fun p _ => ⟨_, _, rfl, by cases p <;> rfl⟩

theorem EncodedLength.call_nz_n16 (n : Word) : EncodedLength.Statement (.call_nz_n16 n) :=
  fun p _ => ⟨_, _, rfl, by cases p <;> rfl⟩

theorem EncodedLength.call_z_n16 (n : Word) : EncodedLength.Statement (.call_z_n16 n) :=
  fun p _ => ⟨_, _, rfl, by cases p <;> rfl⟩

theorem EncodedLength.call_nc_n16 (n : Word) : EncodedLength.Statement (.call_nc_n16 n) :=
  fun p _ => ⟨_, _, rfl, by cases p <;> rfl⟩

theorem EncodedLength.call_c_n16 (n : Word) : EncodedLength.Statement (.call_c_n16 n) :=
  fun p _ => ⟨_, _, rfl, by cases p <;> rfl⟩

theorem EncodedLength.rst_00 : EncodedLength.Statement .rst_00 :=
  fun p _ => ⟨_, _, rfl, by cases p <;> rfl⟩

theorem EncodedLength.rst_08 : EncodedLength.Statement .rst_08 :=
  fun p _ => ⟨_, _, rfl, by cases p <;> rfl⟩

theorem EncodedLength.rst_10 : EncodedLength.Statement .rst_10 :=
  fun p _ => ⟨_, _, rfl, by cases p <;> rfl⟩

theorem EncodedLength.rst_18 : EncodedLength.Statement .rst_18 :=
  fun p _ => ⟨_, _, rfl, by cases p <;> rfl⟩

theorem EncodedLength.rst_20 : EncodedLength.Statement .rst_20 :=
  fun p _ => ⟨_, _, rfl, by cases p <;> rfl⟩

theorem EncodedLength.rst_28 : EncodedLength.Statement .rst_28 :=
  fun p _ => ⟨_, _, rfl, by cases p <;> rfl⟩

theorem EncodedLength.rst_30 : EncodedLength.Statement .rst_30 :=
  fun p _ => ⟨_, _, rfl, by cases p <;> rfl⟩

theorem EncodedLength.rst_38 : EncodedLength.Statement .rst_38 :=
  fun p _ => ⟨_, _, rfl, by cases p <;> rfl⟩

theorem EncodedLength.ret : EncodedLength.Statement .ret :=
  fun p _ => ⟨_, _, rfl, by cases p <;> rfl⟩

theorem EncodedLength.ret_nz : EncodedLength.Statement .ret_nz :=
  fun p _ => ⟨_, _, rfl, by cases p <;> rfl⟩

theorem EncodedLength.ret_z : EncodedLength.Statement .ret_z :=
  fun p _ => ⟨_, _, rfl, by cases p <;> rfl⟩

theorem EncodedLength.ret_nc : EncodedLength.Statement .ret_nc :=
  fun p _ => ⟨_, _, rfl, by cases p <;> rfl⟩

theorem EncodedLength.ret_c : EncodedLength.Statement .ret_c :=
  fun p _ => ⟨_, _, rfl, by cases p <;> rfl⟩

theorem EncodedLength.reti : EncodedLength.Statement .reti :=
  fun p _ => ⟨_, _, rfl, by cases p <;> rfl⟩

theorem EncodedLength.nop : EncodedLength.Statement .nop :=
  fun p _ => ⟨_, _, rfl, by cases p <;> rfl⟩

theorem EncodedLength.halt : EncodedLength.Statement .halt :=
  fun p _ => ⟨_, _, rfl, by cases p <;> rfl⟩

theorem EncodedLength.stop : EncodedLength.Statement .stop :=
  fun p _ => by cases p <;> exact ⟨_, _, rfl, rfl⟩

theorem EncodedLength.di : EncodedLength.Statement .di :=
  fun p _ => ⟨_, _, rfl, by cases p <;> rfl⟩

theorem EncodedLength.ei : EncodedLength.Statement .ei :=
  fun p _ => ⟨_, _, rfl, by cases p <;> rfl⟩

theorem EncodedLength.prefix_cb (b : Byte) : EncodedLength.Statement (.prefix_cb b) :=
  fun _ h => nomatch h

theorem EncodedLength.illegal (op : Byte) : EncodedLength.Statement (.illegal op) :=
  fun p h => ⟨op, [], rfl, illegal_format_length p op h⟩

end Sys2Proof.Laws
end

