-- ==== Sys2Proof/Laws/Step.lean ====
section
/-! SUPPORT. Everything a step can do, once: an idle step of a closed gate, or the execution of the fetched instruction. -/

namespace Sys2Proof.Laws

open Sys2Proof.Machine

/-- The gates are open exactly when the core runs (R140). -/
theorem idleStep_none_iff (s : State) : s.idleStep = none ↔ s.Running := by
  unfold State.idleStep State.Running
  cases s.fault <;> cases s.halted <;> cases s.stopped <;> simp

/-- An idle step is a report (R140). -/
theorem idleStep_some {s t : State} (h : s.idleStep = some t) : ∃ st n, t = s.report st n := by
  unfold State.idleStep at h
  split at h
  · exact ⟨_, _, (Option.some.inj h).symm⟩
  · split at h
    · exact ⟨_, _, (Option.some.inj h).symm⟩
    · split at h
      · exact ⟨_, _, (Option.some.inj h).symm⟩
      · cases h

/-- The step of a running core executes what it fetches. -/
theorem step_running {s : State} (h : s.takeWake.Running) :
    step s = exec s.takeWake.fetchInstr.1 s.takeWake.fetchInstr.2 := by
  unfold step
  rw [(idleStep_none_iff _).mpr h]

/-- Everything a step can do. -/
theorem step_cases {s t : State} (h : step s = .next t) :
    (∃ st n, t = s.takeWake.report st n ∧ ¬ s.takeWake.Running) ∨
    (s.takeWake.Running ∧ exec s.takeWake.fetchInstr.1 s.takeWake.fetchInstr.2 = .next t) := by
  unfold step at h
  cases hi : s.takeWake.idleStep with
  | some u =>
    rw [hi] at h
    obtain ⟨st, n, hu⟩ := idleStep_some hi
    refine .inl ⟨st, n, ?_, fun hr => ?_⟩
    · rw [← hu]
      exact (Host.Outcome.next.inj h).symm
    · rw [(idleStep_none_iff _).mpr hr] at hi
      cases hi
  | none =>
    rw [hi] at h
    exact .inr ⟨(idleStep_none_iff _).mp hi, h⟩

/-- With no entry in the schedule there is no wake. -/
theorem takeWake_nil {s : State} (h : s.wakeIn = []) : s.takeWake = s := by
  simp [State.takeWake, h]

/-- A run whose first step gives `t` goes on from `t`. -/
theorem run_next {s t : State} (n : Nat) (h : step s = .next t) :
    Host.Core.run Sys2Proof.core (n + 1) s = Host.Core.run Sys2Proof.core n t := by
  have hc : Sys2Proof.core.step s = .next t := h
  simp only [Host.Core.run]
  rw [hc]

end Sys2Proof.Laws
end

