-- ==== Sys2Proof/Tests/Slice0.lean ====
section
/-! SUPPORT. The package's own tests. Expected results come from the specification: the opcode maps of 30_encoding.md with the
`match` fields of opcode_table.json, and the vectors of 95_test_vectors.md, each checked on the whole state after one step.
The theorems named `witness_…` show that the hypotheses of the statements can be met. -/

namespace Sys2Proof.Tests

open Sys2Proof.Machine Sys2Proof.Claims

/-! ### Well-formedness: each check refuses an ill-formed term -/

/-- R134: 0x00 is not one of the eleven illegal bytes, 0xD3 and 0xFD are. -/
theorem test_wellFormed_illegal :
    [(0x00 : Byte), 0xD2, 0xD3, 0xFD, 0xFE].map (fun op => (Instr.illegal op).wellFormed) =
      [false, false, true, true, false] := by
  decide

/-- R425: the escape alone is no instruction; the prefixed one is. -/
theorem test_wellFormed_prefix :
    (Instr.prefix_cb 0x37).wellFormed = false ∧ Instr.swap_a.wellFormed = true := by
  decide

/-- Every value of an operand is well-formed. -/
theorem test_wellFormed_operands :
    (Instr.ld_a_n8 0xFF).wellFormed = true ∧ (Instr.jp_n16 0xFFFF).wellFormed = true ∧
    (Instr.jr_e8 0x80).wellFormed = true := by
  decide

/-! ### Decoding: every row of opcode_table.json, its immediates zero -/

theorem test_decode_base_row_0x :
    [0x0, 0x1, 0x2, 0x3, 0x4, 0x5, 0x6, 0x7, 0x8, 0x9, 0xA, 0xB, 0xC, 0xD, 0xE, 0xF].map (decodeTableWord 8) =
    [some .nop, some (.ld_bc_n16 0), some .ld_atBC_a, some .inc_bc,
     some .inc_b, some .dec_b, some (.ld_b_n8 0), some .rlca,
     some (.ld_atA16_sp 0), some .add_hl_bc, some .ld_a_atBC, some .dec_bc,
     some .inc_c, some .dec_c, some (.ld_c_n8 0), some .rrca] := by
  decide

theorem test_decode_base_row_1x :
    [0x10, 0x11, 0x12, 0x13, 0x14, 0x15, 0x16, 0x17, 0x18, 0x19, 0x1A, 0x1B, 0x1C, 0x1D, 0x1E, 0x1F].map (decodeTableWord 8) =
    [some .stop, some (.ld_de_n16 0), some .ld_atDE_a, some .inc_de,
     some .inc_d, some .dec_d, some (.ld_d_n8 0), some .rla,
     some (.jr_e8 0), some .add_hl_de, some .ld_a_atDE, some .dec_de,
     some .inc_e, some .dec_e, some (.ld_e_n8 0), some .rra] := by
  decide

theorem test_decode_base_row_2x :
    [0x20, 0x21, 0x22, 0x23, 0x24, 0x25, 0x26, 0x27, 0x28, 0x29, 0x2A, 0x2B, 0x2C, 0x2D, 0x2E, 0x2F].map (decodeTableWord 8) =
    [some (.jr_nz_e8 0), some (.ld_hl_n16 0), some .ld_atHLInc_a, some .inc_hl,
     some .inc_h, some .dec_h, some (.ld_h_n8 0), some .daa,
     some (.jr_z_e8 0), some .add_hl_hl, some .ld_a_atHLInc, some .dec_hl,
     some .inc_l, some .dec_l, some (.ld_l_n8 0), some .cpl] := by
  decide

theorem test_decode_base_row_3x :
    [0x30, 0x31, 0x32, 0x33, 0x34, 0x35, 0x36, 0x37, 0x38, 0x39, 0x3A, 0x3B, 0x3C, 0x3D, 0x3E, 0x3F].map (decodeTableWord 8) =
    [some (.jr_nc_e8 0), some (.ld_sp_n16 0), some .ld_atHLDec_a, some .inc_sp,
     some .inc_atHL, some .dec_atHL, some (.ld_atHL_n8 0), some .scf,
     some (.jr_c_e8 0), some .add_hl_sp, some .ld_a_atHLDec, some .dec_sp,
     some .inc_a, some .dec_a, some (.ld_a_n8 0), some .ccf] := by
  decide

theorem test_decode_base_row_4x :
    [0x40, 0x41, 0x42, 0x43, 0x44, 0x45, 0x46, 0x47, 0x48, 0x49, 0x4A, 0x4B, 0x4C, 0x4D, 0x4E, 0x4F].map (decodeTableWord 8) =
    [some .ld_b_b, some .ld_b_c, some .ld_b_d, some .ld_b_e,
     some .ld_b_h, some .ld_b_l, some .ld_b_atHL, some .ld_b_a,
     some .ld_c_b, some .ld_c_c, some .ld_c_d, some .ld_c_e,
     some .ld_c_h, some .ld_c_l, some .ld_c_atHL, some .ld_c_a] := by
  decide

theorem test_decode_base_row_5x :
    [0x50, 0x51, 0x52, 0x53, 0x54, 0x55, 0x56, 0x57, 0x58, 0x59, 0x5A, 0x5B, 0x5C, 0x5D, 0x5E, 0x5F].map (decodeTableWord 8) =
    [some .ld_d_b, some .ld_d_c, some .ld_d_d, some .ld_d_e,
     some .ld_d_h, some .ld_d_l, some .ld_d_atHL, some .ld_d_a,
     some .ld_e_b, some .ld_e_c, some .ld_e_d, some .ld_e_e,
     some .ld_e_h, some .ld_e_l, some .ld_e_atHL, some .ld_e_a] := by
  decide

theorem test_decode_base_row_6x :
    [0x60, 0x61, 0x62, 0x63, 0x64, 0x65, 0x66, 0x67, 0x68, 0x69, 0x6A, 0x6B, 0x6C, 0x6D, 0x6E, 0x6F].map (decodeTableWord 8) =
    [some .ld_h_b, some .ld_h_c, some .ld_h_d, some .ld_h_e,
     some .ld_h_h, some .ld_h_l, some .ld_h_atHL, some .ld_h_a,
     some .ld_l_b, some .ld_l_c, some .ld_l_d, some .ld_l_e,
     some .ld_l_h, some .ld_l_l, some .ld_l_atHL, some .ld_l_a] := by
  decide

theorem test_decode_base_row_7x :
    [0x70, 0x71, 0x72, 0x73, 0x74, 0x75, 0x76, 0x77, 0x78, 0x79, 0x7A, 0x7B, 0x7C, 0x7D, 0x7E, 0x7F].map (decodeTableWord 8) =
    [some .ld_atHL_b, some .ld_atHL_c, some .ld_atHL_d, some .ld_atHL_e,
     some .ld_atHL_h, some .ld_atHL_l, some .halt, some .ld_atHL_a,
     some .ld_a_b, some .ld_a_c, some .ld_a_d, some .ld_a_e,
     some .ld_a_h, some .ld_a_l, some .ld_a_atHL, some .ld_a_a] := by
  decide

theorem test_decode_base_row_8x :
    [0x80, 0x81, 0x82, 0x83, 0x84, 0x85, 0x86, 0x87, 0x88, 0x89, 0x8A, 0x8B, 0x8C, 0x8D, 0x8E, 0x8F].map (decodeTableWord 8) =
    [some .add_a_b, some .add_a_c, some .add_a_d, some .add_a_e,
     some .add_a_h, some .add_a_l, some .add_a_atHL, some .add_a_a,
     some .adc_a_b, some .adc_a_c, some .adc_a_d, some .adc_a_e,
     some .adc_a_h, some .adc_a_l, some .adc_a_atHL, some .adc_a_a] := by
  decide

theorem test_decode_base_row_9x :
    [0x90, 0x91, 0x92, 0x93, 0x94, 0x95, 0x96, 0x97, 0x98, 0x99, 0x9A, 0x9B, 0x9C, 0x9D, 0x9E, 0x9F].map (decodeTableWord 8) =
    [some .sub_a_b, some .sub_a_c, some .sub_a_d, some .sub_a_e,
     some .sub_a_h, some .sub_a_l, some .sub_a_atHL, some .sub_a_a,
     some .sbc_a_b, some .sbc_a_c, some .sbc_a_d, some .sbc_a_e,
     some .sbc_a_h, some .sbc_a_l, some .sbc_a_atHL, some .sbc_a_a] := by
  decide

theorem test_decode_base_row_Ax :
    [0xA0, 0xA1, 0xA2, 0xA3, 0xA4, 0xA5, 0xA6, 0xA7, 0xA8, 0xA9, 0xAA, 0xAB, 0xAC, 0xAD, 0xAE, 0xAF].map (decodeTableWord 8) =
    [some .and_a_b, some .and_a_c, some .and_a_d, some .and_a_e,
     some .and_a_h, some .and_a_l, some .and_a_atHL, some .and_a_a,
     some .xor_a_b, some .xor_a_c, some .xor_a_d, some .xor_a_e,
     some .xor_a_h, some .xor_a_l, some .xor_a_atHL, some .xor_a_a] := by
  decide

theorem test_decode_base_row_Bx :
    [0xB0, 0xB1, 0xB2, 0xB3, 0xB4, 0xB5, 0xB6, 0xB7, 0xB8, 0xB9, 0xBA, 0xBB, 0xBC, 0xBD, 0xBE, 0xBF].map (decodeTableWord 8) =
    [some .or_a_b, some .or_a_c, some .or_a_d, some .or_a_e,
     some .or_a_h, some .or_a_l, some .or_a_atHL, some .or_a_a,
     some .cp_a_b, some .cp_a_c, some .cp_a_d, some .cp_a_e,
     some .cp_a_h, some .cp_a_l, some .cp_a_atHL, some .cp_a_a] := by
  decide

theorem test_decode_base_row_Cx :
    [0xC0, 0xC1, 0xC2, 0xC3, 0xC4, 0xC5, 0xC6, 0xC7, 0xC8, 0xC9, 0xCA, 0xCB, 0xCC, 0xCD, 0xCE, 0xCF].map (decodeTableWord 8) =
    [some .ret_nz, some .pop_bc, some (.jp_nz_n16 0), some (.jp_n16 0),
     some (.call_nz_n16 0), some .push_bc, some (.add_a_n8 0), some .rst_00,
     some .ret_z, some .ret, some (.jp_z_n16 0), some (.prefix_cb 0),
     some (.call_z_n16 0), some (.call_n16 0), some (.adc_a_n8 0), some .rst_08] := by
  decide

theorem test_decode_base_row_Dx :
    [0xD0, 0xD1, 0xD2, 0xD3, 0xD4, 0xD5, 0xD6, 0xD7, 0xD8, 0xD9, 0xDA, 0xDB, 0xDC, 0xDD, 0xDE, 0xDF].map (decodeTableWord 8) =
    [some .ret_nc, some .pop_de, some (.jp_nc_n16 0), some (.illegal 0xD3),
     some (.call_nc_n16 0), some .push_de, some (.sub_a_n8 0), some .rst_10,
     some .ret_c, some .reti, some (.jp_c_n16 0), some (.illegal 0xDB),
     some (.call_c_n16 0), some (.illegal 0xDD), some (.sbc_a_n8 0), some .rst_18] := by
  decide

theorem test_decode_base_row_Ex :
    [0xE0, 0xE1, 0xE2, 0xE3, 0xE4, 0xE5, 0xE6, 0xE7, 0xE8, 0xE9, 0xEA, 0xEB, 0xEC, 0xED, 0xEE, 0xEF].map (decodeTableWord 8) =
    [some (.ldh_atA8_a 0), some .pop_hl, some .ld_atC_a, some (.illegal 0xE3),
     some (.illegal 0xE4), some .push_hl, some (.and_a_n8 0), some .rst_20,
     some (.add_sp_e8 0), some .jp_hl, some (.ld_atA16_a 0), some (.illegal 0xEB),
     some (.illegal 0xEC), some (.illegal 0xED), some (.xor_a_n8 0), some .rst_28] := by
  decide

theorem test_decode_base_row_Fx :
    [0xF0, 0xF1, 0xF2, 0xF3, 0xF4, 0xF5, 0xF6, 0xF7, 0xF8, 0xF9, 0xFA, 0xFB, 0xFC, 0xFD, 0xFE, 0xFF].map (decodeTableWord 8) =
    [some (.ldh_a_atA8 0), some .pop_af, some .ld_a_atC, some .di,
     some (.illegal 0xF4), some .push_af, some (.or_a_n8 0), some .rst_30,
     some (.ld_hl_spPlusE8 0), some .ld_sp_hl, some (.ld_a_atA16 0), some .ei,
     some (.illegal 0xFC), some (.illegal 0xFD), some (.cp_a_n8 0), some .rst_38] := by
  decide

theorem test_decode_prefixed_row_0x :
    [0xCB00, 0xCB01, 0xCB02, 0xCB03, 0xCB04, 0xCB05, 0xCB06, 0xCB07, 0xCB08, 0xCB09, 0xCB0A, 0xCB0B, 0xCB0C, 0xCB0D, 0xCB0E, 0xCB0F].map (decodeTableWord 16) =
    [some .rlc_b, some .rlc_c, some .rlc_d, some .rlc_e,
     some .rlc_h, some .rlc_l, some .rlc_atHL, some .rlc_a,
     some .rrc_b, some .rrc_c, some .rrc_d, some .rrc_e,
     some .rrc_h, some .rrc_l, some .rrc_atHL, some .rrc_a] := by
  decide

theorem test_decode_prefixed_row_1x :
    [0xCB10, 0xCB11, 0xCB12, 0xCB13, 0xCB14, 0xCB15, 0xCB16, 0xCB17, 0xCB18, 0xCB19, 0xCB1A, 0xCB1B, 0xCB1C, 0xCB1D, 0xCB1E, 0xCB1F].map (decodeTableWord 16) =
    [some .rl_b, some .rl_c, some .rl_d, some .rl_e,
     some .rl_h, some .rl_l, some .rl_atHL, some .rl_a,
     some .rr_b, some .rr_c, some .rr_d, some .rr_e,
     some .rr_h, some .rr_l, some .rr_atHL, some .rr_a] := by
  decide

theorem test_decode_prefixed_row_2x :
    [0xCB20, 0xCB21, 0xCB22, 0xCB23, 0xCB24, 0xCB25, 0xCB26, 0xCB27, 0xCB28, 0xCB29, 0xCB2A, 0xCB2B, 0xCB2C, 0xCB2D, 0xCB2E, 0xCB2F].map (decodeTableWord 16) =
    [some .sla_b, some .sla_c, some .sla_d, some .sla_e,
     some .sla_h, some .sla_l, some .sla_atHL, some .sla_a,
     some .sra_b, some .sra_c, some .sra_d, some .sra_e,
     some .sra_h, some .sra_l, some .sra_atHL, some .sra_a] := by
  decide

theorem test_decode_prefixed_row_3x :
    [0xCB30, 0xCB31, 0xCB32, 0xCB33, 0xCB34, 0xCB35, 0xCB36, 0xCB37, 0xCB38, 0xCB39, 0xCB3A, 0xCB3B, 0xCB3C, 0xCB3D, 0xCB3E, 0xCB3F].map (decodeTableWord 16) =
    [some .swap_b, some .swap_c, some .swap_d, some .swap_e,
     some .swap_h, some .swap_l, some .swap_atHL, some .swap_a,
     some .srl_b, some .srl_c, some .srl_d, some .srl_e,
     some .srl_h, some .srl_l, some .srl_atHL, some .srl_a] := by
  decide

theorem test_decode_prefixed_row_4x :
    [0xCB40, 0xCB41, 0xCB42, 0xCB43, 0xCB44, 0xCB45, 0xCB46, 0xCB47, 0xCB48, 0xCB49, 0xCB4A, 0xCB4B, 0xCB4C, 0xCB4D, 0xCB4E, 0xCB4F].map (decodeTableWord 16) =
    [some .bit_0_b, some .bit_0_c, some .bit_0_d, some .bit_0_e,
     some .bit_0_h, some .bit_0_l, some .bit_0_atHL, some .bit_0_a,
     some .bit_1_b, some .bit_1_c, some .bit_1_d, some .bit_1_e,
     some .bit_1_h, some .bit_1_l, some .bit_1_atHL, some .bit_1_a] := by
  decide

theorem test_decode_prefixed_row_5x :
    [0xCB50, 0xCB51, 0xCB52, 0xCB53, 0xCB54, 0xCB55, 0xCB56, 0xCB57, 0xCB58, 0xCB59, 0xCB5A, 0xCB5B, 0xCB5C, 0xCB5D, 0xCB5E, 0xCB5F].map (decodeTableWord 16) =
    [some .bit_2_b, some .bit_2_c, some .bit_2_d, some .bit_2_e,
     some .bit_2_h, some .bit_2_l, some .bit_2_atHL, some .bit_2_a,
     some .bit_3_b, some .bit_3_c, some .bit_3_d, some .bit_3_e,
     some .bit_3_h, some .bit_3_l, some .bit_3_atHL, some .bit_3_a] := by
  decide

theorem test_decode_prefixed_row_6x :
    [0xCB60, 0xCB61, 0xCB62, 0xCB63, 0xCB64, 0xCB65, 0xCB66, 0xCB67, 0xCB68, 0xCB69, 0xCB6A, 0xCB6B, 0xCB6C, 0xCB6D, 0xCB6E, 0xCB6F].map (decodeTableWord 16) =
    [some .bit_4_b, some .bit_4_c, some .bit_4_d, some .bit_4_e,
     some .bit_4_h, some .bit_4_l, some .bit_4_atHL, some .bit_4_a,
     some .bit_5_b, some .bit_5_c, some .bit_5_d, some .bit_5_e,
     some .bit_5_h, some .bit_5_l, some .bit_5_atHL, some .bit_5_a] := by
  decide

theorem test_decode_prefixed_row_7x :
    [0xCB70, 0xCB71, 0xCB72, 0xCB73, 0xCB74, 0xCB75, 0xCB76, 0xCB77, 0xCB78, 0xCB79, 0xCB7A, 0xCB7B, 0xCB7C, 0xCB7D, 0xCB7E, 0xCB7F].map (decodeTableWord 16) =
    [some .bit_6_b, some .bit_6_c, some .bit_6_d, some .bit_6_e,
     some .bit_6_h, some .bit_6_l, some .bit_6_atHL, some .bit_6_a,
     some .bit_7_b, some .bit_7_c, some .bit_7_d, some .bit_7_e,
     some .bit_7_h, some .bit_7_l, some .bit_7_atHL, some .bit_7_a] := by
  decide

theorem test_decode_prefixed_row_8x :
    [0xCB80, 0xCB81, 0xCB82, 0xCB83, 0xCB84, 0xCB85, 0xCB86, 0xCB87, 0xCB88, 0xCB89, 0xCB8A, 0xCB8B, 0xCB8C, 0xCB8D, 0xCB8E, 0xCB8F].map (decodeTableWord 16) =
    [some .res_0_b, some .res_0_c, some .res_0_d, some .res_0_e,
     some .res_0_h, some .res_0_l, some .res_0_atHL, some .res_0_a,
     some .res_1_b, some .res_1_c, some .res_1_d, some .res_1_e,
     some .res_1_h, some .res_1_l, some .res_1_atHL, some .res_1_a] := by
  decide

theorem test_decode_prefixed_row_9x :
    [0xCB90, 0xCB91, 0xCB92, 0xCB93, 0xCB94, 0xCB95, 0xCB96, 0xCB97, 0xCB98, 0xCB99, 0xCB9A, 0xCB9B, 0xCB9C, 0xCB9D, 0xCB9E, 0xCB9F].map (decodeTableWord 16) =
    [some .res_2_b, some .res_2_c, some .res_2_d, some .res_2_e,
     some .res_2_h, some .res_2_l, some .res_2_atHL, some .res_2_a,
     some .res_3_b, some .res_3_c, some .res_3_d, some .res_3_e,
     some .res_3_h, some .res_3_l, some .res_3_atHL, some .res_3_a] := by
  decide

theorem test_decode_prefixed_row_Ax :
    [0xCBA0, 0xCBA1, 0xCBA2, 0xCBA3, 0xCBA4, 0xCBA5, 0xCBA6, 0xCBA7, 0xCBA8, 0xCBA9, 0xCBAA, 0xCBAB, 0xCBAC, 0xCBAD, 0xCBAE, 0xCBAF].map (decodeTableWord 16) =
    [some .res_4_b, some .res_4_c, some .res_4_d, some .res_4_e,
     some .res_4_h, some .res_4_l, some .res_4_atHL, some .res_4_a,
     some .res_5_b, some .res_5_c, some .res_5_d, some .res_5_e,
     some .res_5_h, some .res_5_l, some .res_5_atHL, some .res_5_a] := by
  decide

theorem test_decode_prefixed_row_Bx :
    [0xCBB0, 0xCBB1, 0xCBB2, 0xCBB3, 0xCBB4, 0xCBB5, 0xCBB6, 0xCBB7, 0xCBB8, 0xCBB9, 0xCBBA, 0xCBBB, 0xCBBC, 0xCBBD, 0xCBBE, 0xCBBF].map (decodeTableWord 16) =
    [some .res_6_b, some .res_6_c, some .res_6_d, some .res_6_e,
     some .res_6_h, some .res_6_l, some .res_6_atHL, some .res_6_a,
     some .res_7_b, some .res_7_c, some .res_7_d, some .res_7_e,
     some .res_7_h, some .res_7_l, some .res_7_atHL, some .res_7_a] := by
  decide

theorem test_decode_prefixed_row_Cx :
    [0xCBC0, 0xCBC1, 0xCBC2, 0xCBC3, 0xCBC4, 0xCBC5, 0xCBC6, 0xCBC7, 0xCBC8, 0xCBC9, 0xCBCA, 0xCBCB, 0xCBCC, 0xCBCD, 0xCBCE, 0xCBCF].map (decodeTableWord 16) =
    [some .set_0_b, some .set_0_c, some .set_0_d, some .set_0_e,
     some .set_0_h, some .set_0_l, some .set_0_atHL, some .set_0_a,
     some .set_1_b, some .set_1_c, some .set_1_d, some .set_1_e,
     some .set_1_h, some .set_1_l, some .set_1_atHL, some .set_1_a] := by
  decide

theorem test_decode_prefixed_row_Dx :
    [0xCBD0, 0xCBD1, 0xCBD2, 0xCBD3, 0xCBD4, 0xCBD5, 0xCBD6, 0xCBD7, 0xCBD8, 0xCBD9, 0xCBDA, 0xCBDB, 0xCBDC, 0xCBDD, 0xCBDE, 0xCBDF].map (decodeTableWord 16) =
    [some .set_2_b, some .set_2_c, some .set_2_d, some .set_2_e,
     some .set_2_h, some .set_2_l, some .set_2_atHL, some .set_2_a,
     some .set_3_b, some .set_3_c, some .set_3_d, some .set_3_e,
     some .set_3_h, some .set_3_l, some .set_3_atHL, some .set_3_a] := by
  decide

theorem test_decode_prefixed_row_Ex :
    [0xCBE0, 0xCBE1, 0xCBE2, 0xCBE3, 0xCBE4, 0xCBE5, 0xCBE6, 0xCBE7, 0xCBE8, 0xCBE9, 0xCBEA, 0xCBEB, 0xCBEC, 0xCBED, 0xCBEE, 0xCBEF].map (decodeTableWord 16) =
    [some .set_4_b, some .set_4_c, some .set_4_d, some .set_4_e,
     some .set_4_h, some .set_4_l, some .set_4_atHL, some .set_4_a,
     some .set_5_b, some .set_5_c, some .set_5_d, some .set_5_e,
     some .set_5_h, some .set_5_l, some .set_5_atHL, some .set_5_a] := by
  decide

theorem test_decode_prefixed_row_Fx :
    [0xCBF0, 0xCBF1, 0xCBF2, 0xCBF3, 0xCBF4, 0xCBF5, 0xCBF6, 0xCBF7, 0xCBF8, 0xCBF9, 0xCBFA, 0xCBFB, 0xCBFC, 0xCBFD, 0xCBFE, 0xCBFF].map (decodeTableWord 16) =
    [some .set_6_b, some .set_6_c, some .set_6_d, some .set_6_e,
     some .set_6_h, some .set_6_l, some .set_6_atHL, some .set_6_a,
     some .set_7_b, some .set_7_c, some .set_7_d, some .set_7_e,
     some .set_7_h, some .set_7_l, some .set_7_atHL, some .set_7_a] := by
  decide

/-- Immediates (R125, R131): little-endian, and what follows an instruction is left. -/
theorem test_decode_immediates :
    decode .two [0xCD, 0x34, 0x12, 0xFF] = .ok (.call_n16 0x1234, [0xFF]) ∧
    decode .two [0x08, 0xCD, 0xAB] = .ok (.ld_atA16_sp 0xABCD, []) ∧
    decode .two [0x18, 0xFE] = .ok (.jr_e8 0xFE, []) ∧
    decode .two [0xF8, 0x80] = .ok (.ld_hl_spPlusE8 0x80, []) ∧
    decode .two [0xE0, 0x44] = .ok (.ldh_atA8_a 0x44, []) := by
  decide

/-- R422, D18: STOP has one byte or two. -/
theorem test_decode_stop :
    decode .two [0x10, 0x3C, 0x3C] = .ok (.stop, [0x3C]) ∧
    decode .one [0x10, 0x3C, 0x3C] = .ok (.stop, [0x3C, 0x3C]) := by
  decide

/-- Bytes that end too early are rejected. -/
theorem test_decode_short :
    (decode .two []).isOk = false ∧ (decode .two [0xCB]).isOk = false ∧ (decode .two [0x3E]).isOk = false ∧
    (decode .two [0xC3, 0x00]).isOk = false := by
  decide

/-! ### The vectors of 95_test_vectors.md -/

/-- A vector: what differs from reset at the start, the bytes at 0x0100, the answers of the external reads, what differs at
the end, the bus transactions after the fetch, the status and the cycles. -/
structure Trial where
  start : State → State
  bytes : List Byte
  answers : List Byte
  done : State → State
  events : List BusTxn
  status : Status
  cycles : Nat

/-- One step from the vector's start gives exactly its end. -/
def Trial.passes (v : Trial) : Bool :=
  let s := { v.start State.reset with extIn := v.answers }.placeBytes 0x0100 v.bytes
  let fetched := (List.range v.bytes.length).map fun k => BusTxn.read (0x0100 + BitVec.ofNat 16 k) (v.bytes.getD k 0)
  match step s with
  | .next t => decide (t = { v.done { s with extIn := [] } with
      bus := (fetched ++ v.events).reverse, status := v.status, cycles := v.cycles })
  | .fault _ => false
  | .refused _ => false

/-- The vectors L-1 to L-11 of 95_test_vectors.md that are one step. -/
theorem test_loads_l1_to_l11 : List.all [
   -- L-1
   ⟨fun s => { s with c := 0x5A }, [0x41], [],
    fun s => { s with f := Flags.unpack 0xB0, b := 0x5A, pc := 0x0101 }, [], .ok, 4⟩,
   -- L-2
   ⟨id, [0x40], [],
    fun s => { s with f := Flags.unpack 0xB0, pc := 0x0101 }, [], .ok, 4⟩,
   -- L-3
   ⟨fun s => { s with h := 0xC0, l := 0x00 }, [0x7E], [0x99],
    fun s => { s with a := 0x99, f := Flags.unpack 0xB0, pc := 0x0101 }, [.read 0xC000 0x99], .ok, 8⟩,
   -- L-4
   ⟨fun s => { s with h := 0x01, l := 0x4D }, [0x46], [],
    fun s => { s with f := Flags.unpack 0xB0, pc := 0x0101 }, [.read 0x014D 0x00], .ok, 8⟩,
   -- L-5
   ⟨fun s => { s with h := 0xC0, l := 0x10, a := 0x5C }, [0x77], [],
    fun s => { s with f := Flags.unpack 0xB0, pc := 0x0101 }, [.write 0xC010 0x5C], .ok, 8⟩,
   -- L-6
   ⟨fun s => { s with h := 0xC0, l := 0x10 }, [0x74], [],
    fun s => { s with f := Flags.unpack 0xB0, pc := 0x0101 }, [.write 0xC010 0xC0], .ok, 8⟩,
   -- L-7
   ⟨id, [0x06, 0xFF], [],
    fun s => { s with f := Flags.unpack 0xB0, b := 0xFF, pc := 0x0102 }, [], .ok, 8⟩,
   -- L-8
   ⟨fun s => { s with h := 0xD0, l := 0x00 }, [0x36, 0x7E], [],
    fun s => { s with f := Flags.unpack 0xB0, pc := 0x0102 }, [.write 0xD000 0x7E], .ok, 12⟩,
   -- L-9
   ⟨fun s => { s with b := 0xC1, c := 0x23 }, [0x0A], [0x44],
    fun s => { s with a := 0x44, f := Flags.unpack 0xB0, pc := 0x0101 }, [.read 0xC123 0x44], .ok, 8⟩,
   -- L-10
   ⟨fun s => { s with d := 0xFF, e := 0x80, a := 0x3C }, [0x12], [],
    fun s => { s with f := Flags.unpack 0xB0, pc := 0x0101 }, [.write 0xFF80 0x3C], .ok, 8⟩,
   -- L-11
   ⟨fun s => { s with h := 0xFF, l := 0xFF }, [0x2A], [0x0F],
    fun s => { s with a := 0x0F, f := Flags.unpack 0xB0, h := 0x00, l := 0x00, pc := 0x0101 }, [.read 0xFFFF 0x0F], .ok, 8⟩
  ] Trial.passes = true := by
  decide

/-- The vectors L-12 to L-22 of 95_test_vectors.md that are one step. -/
theorem test_loads_l12_to_l22 : List.all [
   -- L-12
   ⟨fun s => { s with h := 0x80, l := 0x00 }, [0x3A], [0x12],
    fun s => { s with a := 0x12, f := Flags.unpack 0xB0, h := 0x7F, l := 0xFF, pc := 0x0101 }, [.read 0x8000 0x12], .ok, 8⟩,
   -- L-13
   ⟨fun s => { s with h := 0xC0, l := 0xFF, a := 0x77 }, [0x22], [],
    fun s => { s with f := Flags.unpack 0xB0, h := 0xC1, l := 0x00, pc := 0x0101 }, [.write 0xC0FF 0x77], .ok, 8⟩,
   -- L-14
   ⟨fun s => { s with h := 0x00, l := 0x00, a := 0x66 }, [0x32], [],
    fun s => { s with f := Flags.unpack 0xB0, h := 0xFF, l := 0xFF, pc := 0x0101, rom := Memory.write s.rom 0x0000 0x66 }, [.write 0x0000 0x66], .ok, 8⟩,
   -- L-15
   ⟨id, [0xFA, 0x34, 0x12], [],
    fun s => { s with a := 0x00, f := Flags.unpack 0xB0, pc := 0x0103 }, [.read 0x1234 0x00], .ok, 16⟩,
   -- L-16
   ⟨id, [0xEA, 0x00, 0xC0], [],
    fun s => { s with f := Flags.unpack 0xB0, pc := 0x0103 }, [.write 0xC000 0x01], .ok, 16⟩,
   -- L-17
   ⟨id, [0xF0, 0x44], [0x90],
    fun s => { s with a := 0x90, f := Flags.unpack 0xB0, pc := 0x0102 }, [.read 0xFF44 0x90], .ok, 12⟩,
   -- L-18
   ⟨fun s => { s with a := 0xAB }, [0xE0, 0x80], [],
    fun s => { s with f := Flags.unpack 0xB0, pc := 0x0102 }, [.write 0xFF80 0xAB], .ok, 12⟩,
   -- L-19
   ⟨fun s => { s with c := 0x00 }, [0xF2], [0xCF],
    fun s => { s with a := 0xCF, f := Flags.unpack 0xB0, pc := 0x0101 }, [.read 0xFF00 0xCF], .ok, 8⟩,
   -- L-20
   ⟨fun s => { s with c := 0xFF, a := 0x01 }, [0xE2], [],
    fun s => { s with f := Flags.unpack 0xB0, pc := 0x0101 }, [.write 0xFFFF 0x01], .ok, 8⟩,
   -- L-21
   ⟨id, [0x31, 0xFE, 0xDF], [],
    fun s => { s with f := Flags.unpack 0xB0, sp := 0xDFFE, pc := 0x0103 }, [], .ok, 12⟩,
   -- L-22
   ⟨id, [0x21, 0x34, 0x12], [],
    fun s => { s with f := Flags.unpack 0xB0, h := 0x12, l := 0x34, pc := 0x0103 }, [], .ok, 12⟩
  ] Trial.passes = true := by
  decide

/-- The vectors L-23 to L-33 of 95_test_vectors.md that are one step. -/
theorem test_loads_l23_to_l33 : List.all [
   -- L-23
   ⟨fun s => { s with sp := 0xFFF8 }, [0x08, 0x00, 0xC0], [],
    fun s => { s with f := Flags.unpack 0xB0, pc := 0x0103 }, [.write 0xC000 0xF8, .write 0xC001 0xFF], .ok, 20⟩,
   -- L-24
   ⟨fun s => { s with sp := 0x1234 }, [0x08, 0xFF, 0xFF], [],
    fun s => { s with f := Flags.unpack 0xB0, pc := 0x0103, rom := Memory.write s.rom 0x0000 0x12 }, [.write 0xFFFF 0x34, .write 0x0000 0x12], .ok, 20⟩,
   -- L-25
   ⟨fun s => { s with h := 0xC1, l := 0x00 }, [0xF9], [],
    fun s => { s with f := Flags.unpack 0xB0, sp := 0xC100, pc := 0x0101 }, [], .ok, 8⟩,
   -- L-26
   ⟨fun s => { s with sp := 0x00FF }, [0xF8, 0x01], [],
    fun s => { s with f := Flags.unpack 0x30, l := 0x00, pc := 0x0102 }, [], .ok, 12⟩,
   -- L-27
   ⟨fun s => { s with sp := 0x0000 }, [0xF8, 0xFF], [],
    fun s => { s with f := Flags.unpack 0x00, h := 0xFF, l := 0xFF, pc := 0x0102 }, [], .ok, 12⟩,
   -- L-28
   ⟨fun s => { s with sp := 0xFFFE }, [0xF8, 0x80], [],
    fun s => { s with f := Flags.unpack 0x10, h := 0xFF, l := 0x7E, pc := 0x0102 }, [], .ok, 12⟩,
   -- L-29
   ⟨fun s => { s with b := 0x12, c := 0x34 }, [0xC5], [],
    fun s => { s with f := Flags.unpack 0xB0, sp := 0xFFFC, pc := 0x0101 }, [.write 0xFFFD 0x12, .write 0xFFFC 0x34], .ok, 16⟩,
   -- L-30
   ⟨fun s => { s with sp := 0x0001 }, [0xF5], [],
    fun s => { s with f := Flags.unpack 0xB0, sp := 0xFFFF, pc := 0x0101, rom := Memory.write s.rom 0x0000 0x01 }, [.write 0x0000 0x01, .write 0xFFFF 0xB0], .ok, 16⟩,
   -- L-31
   ⟨fun s => { s with sp := 0xC000 }, [0xD1], [0x34, 0x12],
    fun s => { s with f := Flags.unpack 0xB0, d := 0x12, e := 0x34, sp := 0xC002, pc := 0x0101 }, [.read 0xC000 0x34, .read 0xC001 0x12], .ok, 12⟩,
   -- L-32
   ⟨fun s => { s with sp := 0xC000 }, [0xF1], [0xFF, 0x12],
    fun s => { s with a := 0x12, f := Flags.unpack 0xF0, sp := 0xC002, pc := 0x0101 }, [.read 0xC000 0xFF, .read 0xC001 0x12], .ok, 12⟩,
   -- L-33
   ⟨fun s => { s with sp := 0xFFFF }, [0xE1], [0xCD],
    fun s => { s with f := Flags.unpack 0xB0, h := 0x00, l := 0xCD, sp := 0x0001, pc := 0x0101 }, [.read 0xFFFF 0xCD, .read 0x0000 0x00], .ok, 12⟩
  ] Trial.passes = true := by
  decide

/-- The vectors A-1 to A-11 of 95_test_vectors.md that are one step. -/
theorem test_alu8_a1_to_a11 : List.all [
   -- A-1
   ⟨fun s => { s with a := 0x3A, b := 0xC6, f := Flags.unpack 0x00 }, [0x80], [],
    fun s => { s with a := 0x00, f := Flags.unpack 0xB0, pc := 0x0101 }, [], .ok, 4⟩,
   -- A-2
   ⟨fun s => { s with a := 0x0F, f := Flags.unpack 0x00 }, [0xC6, 0x01], [],
    fun s => { s with a := 0x10, f := Flags.unpack 0x20, pc := 0x0102 }, [], .ok, 8⟩,
   -- A-3
   ⟨fun s => { s with a := 0xFF, f := Flags.unpack 0x00 }, [0xC6, 0x01], [],
    fun s => { s with a := 0x00, f := Flags.unpack 0xB0, pc := 0x0102 }, [], .ok, 8⟩,
   -- A-4
   ⟨fun s => { s with a := 0x80, f := Flags.unpack 0x00 }, [0x87], [],
    fun s => { s with a := 0x00, f := Flags.unpack 0x90, pc := 0x0101 }, [], .ok, 4⟩,
   -- A-5
   ⟨fun s => { s with a := 0xE1, c := 0x0F, f := Flags.unpack 0x10 }, [0x89], [],
    fun s => { s with a := 0xF1, f := Flags.unpack 0x20, pc := 0x0101 }, [], .ok, 4⟩,
   -- A-6
   ⟨fun s => { s with a := 0x00, f := Flags.unpack 0x10 }, [0xCE, 0xFF], [],
    fun s => { s with f := Flags.unpack 0xB0, pc := 0x0102 }, [], .ok, 8⟩,
   -- A-7
   ⟨fun s => { s with a := 0x00, f := Flags.unpack 0x10 }, [0xCE, 0x0F], [],
    fun s => { s with a := 0x10, f := Flags.unpack 0x20, pc := 0x0102 }, [], .ok, 8⟩,
   -- A-8
   ⟨fun s => { s with a := 0x3E, b := 0x3E, f := Flags.unpack 0x00 }, [0x90], [],
    fun s => { s with a := 0x00, f := Flags.unpack 0xC0, pc := 0x0101 }, [], .ok, 4⟩,
   -- A-9
   ⟨fun s => { s with a := 0x00, f := Flags.unpack 0x00 }, [0xD6, 0x01], [],
    fun s => { s with a := 0xFF, f := Flags.unpack 0x70, pc := 0x0102 }, [], .ok, 8⟩,
   -- A-10
   ⟨fun s => { s with a := 0x3E, f := Flags.unpack 0x00 }, [0xD6, 0x0F], [],
    fun s => { s with a := 0x2F, f := Flags.unpack 0x60, pc := 0x0102 }, [], .ok, 8⟩,
   -- A-11
   ⟨fun s => { s with a := 0x3B, h := 0x2A, f := Flags.unpack 0x10 }, [0x9C], [],
    fun s => { s with a := 0x10, f := Flags.unpack 0x40, pc := 0x0101 }, [], .ok, 4⟩
  ] Trial.passes = true := by
  decide

/-- The vectors A-12 to A-22 of 95_test_vectors.md that are one step. -/
theorem test_alu8_a12_to_a22 : List.all [
   -- A-12
   ⟨fun s => { s with a := 0x00, f := Flags.unpack 0x10 }, [0xDE, 0x00], [],
    fun s => { s with a := 0xFF, f := Flags.unpack 0x70, pc := 0x0102 }, [], .ok, 8⟩,
   -- A-13
   ⟨fun s => { s with a := 0x55, f := Flags.unpack 0x10 }, [0x9F], [],
    fun s => { s with a := 0xFF, f := Flags.unpack 0x70, pc := 0x0101 }, [], .ok, 4⟩,
   -- A-14
   ⟨fun s => { s with a := 0x5A, l := 0x3F, f := Flags.unpack 0x10 }, [0xA5], [],
    fun s => { s with a := 0x1A, f := Flags.unpack 0x20, pc := 0x0101 }, [], .ok, 4⟩,
   -- A-15
   ⟨fun s => { s with a := 0xFF, f := Flags.unpack 0x00 }, [0xE6, 0x00], [],
    fun s => { s with a := 0x00, f := Flags.unpack 0xA0, pc := 0x0102 }, [], .ok, 8⟩,
   -- A-16
   ⟨fun s => { s with a := 0xFF, f := Flags.unpack 0x70 }, [0xAF], [],
    fun s => { s with a := 0x00, f := Flags.unpack 0x80, pc := 0x0101 }, [], .ok, 4⟩,
   -- A-17
   ⟨fun s => { s with a := 0xF0, f := Flags.unpack 0x00 }, [0xEE, 0x0F], [],
    fun s => { s with a := 0xFF, f := Flags.unpack 0x00, pc := 0x0102 }, [], .ok, 8⟩,
   -- A-18
   ⟨fun s => { s with h := 0xC0, l := 0x00, a := 0x00, f := Flags.unpack 0xF0 }, [0xB6], [0x0F],
    fun s => { s with a := 0x0F, f := Flags.unpack 0x00, pc := 0x0101 }, [.read 0xC000 0x0F], .ok, 8⟩,
   -- A-19
   ⟨fun s => { s with a := 0x00, f := Flags.unpack 0x70 }, [0xB7], [],
    fun s => { s with f := Flags.unpack 0x80, pc := 0x0101 }, [], .ok, 4⟩,
   -- A-20
   ⟨fun s => { s with a := 0x3C, f := Flags.unpack 0x00 }, [0xFE, 0x2F], [],
    fun s => { s with f := Flags.unpack 0x60, pc := 0x0102 }, [], .ok, 8⟩,
   -- A-21
   ⟨fun s => { s with a := 0x3C, f := Flags.unpack 0x00 }, [0xFE, 0x3C], [],
    fun s => { s with f := Flags.unpack 0xC0, pc := 0x0102 }, [], .ok, 8⟩,
   -- A-22
   ⟨fun s => { s with a := 0x3C, f := Flags.unpack 0x00 }, [0xFE, 0x40], [],
    fun s => { s with f := Flags.unpack 0x50, pc := 0x0102 }, [], .ok, 8⟩
  ] Trial.passes = true := by
  decide

/-- The vectors A-23 to A-33 of 95_test_vectors.md that are one step. -/
theorem test_alu8_a23_to_a33 : List.all [
   -- A-23
   ⟨fun s => { s with a := 0xFF, f := Flags.unpack 0x10 }, [0x3C], [],
    fun s => { s with a := 0x00, f := Flags.unpack 0xB0, pc := 0x0101 }, [], .ok, 4⟩,
   -- A-24
   ⟨fun s => { s with b := 0x0F, f := Flags.unpack 0x00 }, [0x04], [],
    fun s => { s with f := Flags.unpack 0x20, b := 0x10, pc := 0x0101 }, [], .ok, 4⟩,
   -- A-25
   ⟨fun s => { s with h := 0xC0, l := 0x00, f := Flags.unpack 0x00 }, [0x34], [0x50],
    fun s => { s with f := Flags.unpack 0x00, pc := 0x0101 }, [.read 0xC000 0x50, .write 0xC000 0x51], .ok, 12⟩,
   -- A-26
   ⟨fun s => { s with b := 0x01, f := Flags.unpack 0x00 }, [0x05], [],
    fun s => { s with f := Flags.unpack 0xC0, b := 0x00, pc := 0x0101 }, [], .ok, 4⟩,
   -- A-27
   ⟨fun s => { s with c := 0x00, f := Flags.unpack 0x10 }, [0x0D], [],
    fun s => { s with f := Flags.unpack 0x70, c := 0xFF, pc := 0x0101 }, [], .ok, 4⟩,
   -- A-28
   ⟨fun s => { s with d := 0x10, f := Flags.unpack 0x00 }, [0x15], [],
    fun s => { s with f := Flags.unpack 0x60, d := 0x0F, pc := 0x0101 }, [], .ok, 4⟩,
   -- A-29
   ⟨fun s => { s with h := 0xC0, l := 0x00, f := Flags.unpack 0x00 }, [0x35], [0x01],
    fun s => { s with f := Flags.unpack 0xC0, pc := 0x0101 }, [.read 0xC000 0x01, .write 0xC000 0x00], .ok, 12⟩,
   -- A-30
   ⟨fun s => { s with a := 0x7D, f := Flags.unpack 0x00 }, [0x27], [],
    fun s => { s with a := 0x83, f := Flags.unpack 0x00, pc := 0x0101 }, [], .ok, 4⟩,
   -- A-31
   ⟨fun s => { s with a := 0x4B, f := Flags.unpack 0x60 }, [0x27], [],
    fun s => { s with a := 0x45, f := Flags.unpack 0x40, pc := 0x0101 }, [], .ok, 4⟩,
   -- A-32
   ⟨fun s => { s with a := 0x9A, f := Flags.unpack 0x00 }, [0x27], [],
    fun s => { s with a := 0x00, f := Flags.unpack 0x90, pc := 0x0101 }, [], .ok, 4⟩,
   -- A-33
   ⟨fun s => { s with a := 0x00, f := Flags.unpack 0x90 }, [0x27], [],
    fun s => { s with a := 0x60, f := Flags.unpack 0x10, pc := 0x0101 }, [], .ok, 4⟩
  ] Trial.passes = true := by
  decide

/-- The vectors A-34 to A-40 of 95_test_vectors.md that are one step. -/
theorem test_alu8_a34_to_a40 : List.all [
   -- A-34
   ⟨fun s => { s with a := 0xF0, f := Flags.unpack 0x40 }, [0x27], [],
    fun s => { s with f := Flags.unpack 0x40, pc := 0x0101 }, [], .ok, 4⟩,
   -- A-35
   ⟨fun s => { s with a := 0x00, f := Flags.unpack 0x70 }, [0x27], [],
    fun s => { s with a := 0x9A, f := Flags.unpack 0x50, pc := 0x0101 }, [], .ok, 4⟩,
   -- A-36
   ⟨fun s => { s with a := 0xA0, f := Flags.unpack 0x00 }, [0x27], [],
    fun s => { s with a := 0x00, f := Flags.unpack 0x90, pc := 0x0101 }, [], .ok, 4⟩,
   -- A-37
   ⟨fun s => { s with a := 0x35, f := Flags.unpack 0x90 }, [0x2F], [],
    fun s => { s with a := 0xCA, f := Flags.unpack 0xF0, pc := 0x0101 }, [], .ok, 4⟩,
   -- A-38
   ⟨fun s => { s with f := Flags.unpack 0xE0 }, [0x37], [],
    fun s => { s with f := Flags.unpack 0x90, pc := 0x0101 }, [], .ok, 4⟩,
   -- A-39
   ⟨fun s => { s with f := Flags.unpack 0x70 }, [0x3F], [],
    fun s => { s with f := Flags.unpack 0x00, pc := 0x0101 }, [], .ok, 4⟩,
   -- A-40
   ⟨fun s => { s with f := Flags.unpack 0x80 }, [0x3F], [],
    fun s => { s with f := Flags.unpack 0x90, pc := 0x0101 }, [], .ok, 4⟩
  ] Trial.passes = true := by
  decide

/-- The vectors W-1 to W-11 of 95_test_vectors.md that are one step. -/
theorem test_alu16_w1_to_w11 : List.all [
   -- W-1
   ⟨fun s => { s with b := 0xFF, c := 0xFF, f := Flags.unpack 0x00 }, [0x03], [],
    fun s => { s with f := Flags.unpack 0x00, b := 0x00, c := 0x00, pc := 0x0101 }, [], .ok, 8⟩,
   -- W-2
   ⟨fun s => { s with sp := 0xFFFF }, [0x33], [],
    fun s => { s with f := Flags.unpack 0xB0, sp := 0x0000, pc := 0x0101 }, [], .ok, 8⟩,
   -- W-3
   ⟨fun s => { s with b := 0x00, c := 0x00, f := Flags.unpack 0x00 }, [0x0B], [],
    fun s => { s with f := Flags.unpack 0x00, b := 0xFF, c := 0xFF, pc := 0x0101 }, [], .ok, 8⟩,
   -- W-4
   ⟨fun s => { s with d := 0x01, e := 0x00 }, [0x1B], [],
    fun s => { s with f := Flags.unpack 0xB0, d := 0x00, e := 0xFF, pc := 0x0101 }, [], .ok, 8⟩,
   -- W-5
   ⟨fun s => { s with h := 0x0F, l := 0xFF, b := 0x00, c := 0x01, f := Flags.unpack 0x80 }, [0x09], [],
    fun s => { s with f := Flags.unpack 0xA0, h := 0x10, l := 0x00, pc := 0x0101 }, [], .ok, 8⟩,
   -- W-6
   ⟨fun s => { s with h := 0xFF, l := 0xFF, d := 0x00, e := 0x01, f := Flags.unpack 0x00 }, [0x19], [],
    fun s => { s with f := Flags.unpack 0x30, h := 0x00, l := 0x00, pc := 0x0101 }, [], .ok, 8⟩,
   -- W-7
   ⟨fun s => { s with h := 0x8A, l := 0x23, f := Flags.unpack 0x00 }, [0x29], [],
    fun s => { s with f := Flags.unpack 0x30, h := 0x14, l := 0x46, pc := 0x0101 }, [], .ok, 8⟩,
   -- W-8
   ⟨fun s => { s with h := 0x00, l := 0x00, sp := 0xFFFE, f := Flags.unpack 0x00 }, [0x39], [],
    fun s => { s with f := Flags.unpack 0x00, h := 0xFF, l := 0xFE, pc := 0x0101 }, [], .ok, 8⟩,
   -- W-9
   ⟨fun s => { s with sp := 0xFFF8 }, [0xE8, 0x02], [],
    fun s => { s with f := Flags.unpack 0x00, sp := 0xFFFA, pc := 0x0102 }, [], .ok, 16⟩,
   -- W-10
   ⟨fun s => { s with sp := 0x0001 }, [0xE8, 0xFE], [],
    fun s => { s with f := Flags.unpack 0x00, sp := 0xFFFF, pc := 0x0102 }, [], .ok, 16⟩,
   -- W-11
   ⟨fun s => { s with sp := 0x000F }, [0xE8, 0x01], [],
    fun s => { s with f := Flags.unpack 0x20, sp := 0x0010, pc := 0x0102 }, [], .ok, 16⟩
  ] Trial.passes = true := by
  decide

/-- The vectors W-12 to W-12 of 95_test_vectors.md that are one step. -/
theorem test_alu16_w12_to_w12 : List.all [
   -- W-12
   ⟨fun s => { s with sp := 0x1234, f := Flags.unpack 0xF0 }, [0xE8, 0x00], [],
    fun s => { s with f := Flags.unpack 0x00, pc := 0x0102 }, [], .ok, 16⟩
  ] Trial.passes = true := by
  decide

/-- The vectors B-1 to B-11 of 95_test_vectors.md that are one step. -/
theorem test_rotate_shift_bit_b1_to_b11 : List.all [
   -- B-1
   ⟨fun s => { s with a := 0x00, f := Flags.unpack 0xF0 }, [0x07], [],
    fun s => { s with f := Flags.unpack 0x00, pc := 0x0101 }, [], .ok, 4⟩,
   -- B-2
   ⟨fun s => { s with a := 0x01, f := Flags.unpack 0x00 }, [0x0F], [],
    fun s => { s with a := 0x80, f := Flags.unpack 0x10, pc := 0x0101 }, [], .ok, 4⟩,
   -- B-3
   ⟨fun s => { s with a := 0x80, f := Flags.unpack 0x00 }, [0x17], [],
    fun s => { s with a := 0x00, f := Flags.unpack 0x10, pc := 0x0101 }, [], .ok, 4⟩,
   -- B-4
   ⟨fun s => { s with a := 0x00, f := Flags.unpack 0x10 }, [0x1F], [],
    fun s => { s with a := 0x80, f := Flags.unpack 0x00, pc := 0x0101 }, [], .ok, 4⟩,
   -- B-5
   ⟨fun s => { s with h := 0xC0, l := 0x00 }, [0xCB, 0x06], [0x80],
    fun s => { s with f := Flags.unpack 0x10, pc := 0x0102 }, [.read 0xC000 0x80, .write 0xC000 0x01], .ok, 16⟩,
   -- B-6
   ⟨fun s => { s with a := 0x00, f := Flags.unpack 0x10 }, [0xCB, 0x07], [],
    fun s => { s with f := Flags.unpack 0x80, pc := 0x0102 }, [], .ok, 8⟩,
   -- B-7
   ⟨fun s => { s with a := 0x01, f := Flags.unpack 0x00 }, [0xCB, 0x0F], [],
    fun s => { s with a := 0x80, f := Flags.unpack 0x10, pc := 0x0102 }, [], .ok, 8⟩,
   -- B-8
   ⟨fun s => { s with c := 0x7F, f := Flags.unpack 0x10 }, [0xCB, 0x11], [],
    fun s => { s with f := Flags.unpack 0x00, c := 0xFF, pc := 0x0102 }, [], .ok, 8⟩,
   -- B-9
   ⟨fun s => { s with e := 0x01, f := Flags.unpack 0x00 }, [0xCB, 0x1B], [],
    fun s => { s with f := Flags.unpack 0x90, e := 0x00, pc := 0x0102 }, [], .ok, 8⟩,
   -- B-10
   ⟨fun s => { s with a := 0x80, f := Flags.unpack 0x00 }, [0xCB, 0x27], [],
    fun s => { s with a := 0x00, f := Flags.unpack 0x90, pc := 0x0102 }, [], .ok, 8⟩,
   -- B-11
   ⟨fun s => { s with b := 0x81, f := Flags.unpack 0x00 }, [0xCB, 0x28], [],
    fun s => { s with f := Flags.unpack 0x10, b := 0xC0, pc := 0x0102 }, [], .ok, 8⟩
  ] Trial.passes = true := by
  decide

/-- The vectors B-12 to B-22 of 95_test_vectors.md that are one step. -/
theorem test_rotate_shift_bit_b12_to_b22 : List.all [
   -- B-12
   ⟨fun s => { s with a := 0x01, f := Flags.unpack 0x00 }, [0xCB, 0x2F], [],
    fun s => { s with a := 0x00, f := Flags.unpack 0x90, pc := 0x0102 }, [], .ok, 8⟩,
   -- B-13
   ⟨fun s => { s with a := 0x00, f := Flags.unpack 0x10 }, [0xCB, 0x37], [],
    fun s => { s with f := Flags.unpack 0x80, pc := 0x0102 }, [], .ok, 8⟩,
   -- B-14
   ⟨fun s => { s with h := 0xC0, l := 0x00 }, [0xCB, 0x36], [0xA5],
    fun s => { s with f := Flags.unpack 0x00, pc := 0x0102 }, [.read 0xC000 0xA5, .write 0xC000 0x5A], .ok, 16⟩,
   -- B-15
   ⟨fun s => { s with a := 0x01, f := Flags.unpack 0x00 }, [0xCB, 0x3F], [],
    fun s => { s with a := 0x00, f := Flags.unpack 0x90, pc := 0x0102 }, [], .ok, 8⟩,
   -- B-16
   ⟨fun s => { s with a := 0x01, f := Flags.unpack 0x10 }, [0xCB, 0x47], [],
    fun s => { s with f := Flags.unpack 0x30, pc := 0x0102 }, [], .ok, 8⟩,
   -- B-17
   ⟨fun s => { s with a := 0x7F, f := Flags.unpack 0x00 }, [0xCB, 0x7F], [],
    fun s => { s with f := Flags.unpack 0xA0, pc := 0x0102 }, [], .ok, 8⟩,
   -- B-18
   ⟨fun s => { s with h := 0xC0, l := 0x00, f := Flags.unpack 0x50 }, [0xCB, 0x46], [0xFE],
    fun s => { s with f := Flags.unpack 0xB0, pc := 0x0102 }, [.read 0xC000 0xFE], .ok, 12⟩,
   -- B-19
   ⟨fun s => { s with a := 0xFF, f := Flags.unpack 0x00 }, [0xCB, 0xBF], [],
    fun s => { s with a := 0x7F, f := Flags.unpack 0x00, pc := 0x0102 }, [], .ok, 8⟩,
   -- B-20
   ⟨fun s => { s with h := 0xC0, l := 0x00 }, [0xCB, 0x86], [0xFF],
    fun s => { s with f := Flags.unpack 0xB0, pc := 0x0102 }, [.read 0xC000 0xFF, .write 0xC000 0xFE], .ok, 16⟩,
   -- B-21
   ⟨fun s => { s with b := 0x00, f := Flags.unpack 0xF0 }, [0xCB, 0xC0], [],
    fun s => { s with f := Flags.unpack 0xF0, b := 0x01, pc := 0x0102 }, [], .ok, 8⟩,
   -- B-22
   ⟨fun s => { s with e := 0x00 }, [0xCB, 0xCB], [],
    fun s => { s with f := Flags.unpack 0xB0, e := 0x02, pc := 0x0102 }, [], .ok, 8⟩
  ] Trial.passes = true := by
  decide

/-- The vectors C-1 to C-11 of 95_test_vectors.md that are one step. -/
theorem test_control_c1_to_c11 : List.all [
   -- C-1
   ⟨id, [0xC3, 0x50, 0x01], [],
    fun s => { s with f := Flags.unpack 0xB0, pc := 0x0150 }, [], .ok, 16⟩,
   -- C-2
   ⟨fun s => { s with f := Flags.unpack 0x80 }, [0xC2, 0x00, 0x20], [],
    fun s => { s with f := Flags.unpack 0x80, pc := 0x0103 }, [], .ok, 12⟩,
   -- C-3
   ⟨fun s => { s with f := Flags.unpack 0x80 }, [0xCA, 0x00, 0x20], [],
    fun s => { s with f := Flags.unpack 0x80, pc := 0x2000 }, [], .ok, 16⟩,
   -- C-4
   ⟨fun s => { s with f := Flags.unpack 0x00 }, [0xD2, 0x00, 0x20], [],
    fun s => { s with f := Flags.unpack 0x00, pc := 0x2000 }, [], .ok, 16⟩,
   -- C-5
   ⟨fun s => { s with f := Flags.unpack 0x00 }, [0xDA, 0x00, 0x20], [],
    fun s => { s with f := Flags.unpack 0x00, pc := 0x0103 }, [], .ok, 12⟩,
   -- C-6
   ⟨fun s => { s with h := 0xC0, l := 0x00 }, [0xE9], [],
    fun s => { s with f := Flags.unpack 0xB0, pc := 0xC000 }, [], .ok, 4⟩,
   -- C-7
   ⟨id, [0x18, 0x05], [],
    fun s => { s with f := Flags.unpack 0xB0, pc := 0x0107 }, [], .ok, 12⟩,
   -- C-8
   ⟨id, [0x18, 0xFE], [],
    fun s => { s with f := Flags.unpack 0xB0, pc := 0x0100 }, [], .ok, 12⟩,
   -- C-9
   ⟨id, [0x18, 0x80], [],
    fun s => { s with f := Flags.unpack 0xB0, pc := 0x0082 }, [], .ok, 12⟩,
   -- C-10
   ⟨fun s => { s with f := Flags.unpack 0x00 }, [0x20, 0x10], [],
    fun s => { s with f := Flags.unpack 0x00, pc := 0x0112 }, [], .ok, 12⟩,
   -- C-11
   ⟨fun s => { s with f := Flags.unpack 0x00 }, [0x28, 0x10], [],
    fun s => { s with f := Flags.unpack 0x00, pc := 0x0102 }, [], .ok, 8⟩
  ] Trial.passes = true := by
  decide

/-- The vectors C-12 to C-21 of 95_test_vectors.md that are one step. -/
theorem test_control_c12_to_c21 : List.all [
   -- C-12
   ⟨fun s => { s with f := Flags.unpack 0x10 }, [0x38, 0xF0], [],
    fun s => { s with f := Flags.unpack 0x10, pc := 0x00F2 }, [], .ok, 12⟩,
   -- C-13
   ⟨id, [0xCD, 0x00, 0x02], [],
    fun s => { s with f := Flags.unpack 0xB0, sp := 0xFFFC, pc := 0x0200 }, [.write 0xFFFD 0x01, .write 0xFFFC 0x03], .ok, 24⟩,
   -- C-14
   ⟨fun s => { s with f := Flags.unpack 0x80 }, [0xC4, 0x00, 0x02], [],
    fun s => { s with f := Flags.unpack 0x80, pc := 0x0103 }, [], .ok, 12⟩,
   -- C-15
   ⟨fun s => { s with f := Flags.unpack 0x10 }, [0xDC, 0x00, 0x02], [],
    fun s => { s with f := Flags.unpack 0x10, sp := 0xFFFC, pc := 0x0200 }, [.write 0xFFFD 0x01, .write 0xFFFC 0x03], .ok, 24⟩,
   -- C-16
   ⟨id, [0xFF], [],
    fun s => { s with f := Flags.unpack 0xB0, sp := 0xFFFC, pc := 0x0038 }, [.write 0xFFFD 0x01, .write 0xFFFC 0x01], .ok, 16⟩,
   -- C-17
   ⟨fun s => { s with sp := 0x0000 }, [0xC7], [],
    fun s => { s with f := Flags.unpack 0xB0, sp := 0xFFFE, pc := 0x0000 }, [.write 0xFFFF 0x01, .write 0xFFFE 0x01], .ok, 16⟩,
   -- C-18
   ⟨fun s => { s with sp := 0xDFFC }, [0xC9], [0x34, 0x12],
    fun s => { s with f := Flags.unpack 0xB0, sp := 0xDFFE, pc := 0x1234 }, [.read 0xDFFC 0x34, .read 0xDFFD 0x12], .ok, 16⟩,
   -- C-19
   ⟨fun s => { s with sp := 0xDFFC, f := Flags.unpack 0x80 }, [0xC0], [],
    fun s => { s with f := Flags.unpack 0x80, pc := 0x0101 }, [], .ok, 8⟩,
   -- C-20
   ⟨fun s => { s with sp := 0xDFFC, f := Flags.unpack 0x10 }, [0xD8], [0x34, 0x12],
    fun s => { s with f := Flags.unpack 0x10, sp := 0xDFFE, pc := 0x1234 }, [.read 0xDFFC 0x34, .read 0xDFFD 0x12], .ok, 20⟩,
   -- C-21
   ⟨fun s => { s with sp := 0xFFFE }, [0xD9], [0x00, 0x40],
    fun s => { s with f := Flags.unpack 0xB0, sp := 0x0000, pc := 0x4000, ime := true }, [.read 0xFFFE 0x00, .read 0xFFFF 0x40], .ok, 16⟩
  ] Trial.passes = true := by
  decide

/-- The vectors S-1 to S-9 of 95_test_vectors.md that are one step. -/
theorem test_system_s1_to_s9 : List.all [
   -- S-1
   ⟨fun s => { s with f := Flags.unpack 0xF0 }, [0x00], [],
    fun s => { s with f := Flags.unpack 0xF0, pc := 0x0101 }, [], .ok, 4⟩,
   -- S-6
   ⟨fun s => { s with ime := true }, [0xF3], [],
    fun s => { s with f := Flags.unpack 0xB0, pc := 0x0101, ime := false }, [], .ok, 4⟩,
   -- S-7
   ⟨id, [0xFB], [],
    fun s => { s with f := Flags.unpack 0xB0, pc := 0x0101, ime := true }, [], .ok, 4⟩,
   -- S-9
   ⟨fun s => { s with e := 0x00 }, [0xCB, 0xCB], [],
    fun s => { s with f := Flags.unpack 0xB0, e := 0x02, pc := 0x0102 }, [], .ok, 8⟩
  ] Trial.passes = true := by
  decide

/-- The vectors E-1 to E-5 of 95_test_vectors.md that are one step. -/
theorem test_exceptions_e1_to_e5 : List.all [
   -- E-1
   ⟨fun s => { s with f := Flags.unpack 0x00 }, [0xDB], [],
    fun s => { s with f := Flags.unpack 0x00, pc := 0x0101, fault := some 0xDB }, [], (.illegal 0xDB), 0⟩,
   -- E-3
   ⟨fun s => { s with e := 0x00 }, [0xCB, 0xD3], [],
    fun s => { s with f := Flags.unpack 0xB0, e := 0x04, pc := 0x0102 }, [], .ok, 8⟩,
   -- E-4
   ⟨id, [0x3E, 0xD3], [],
    fun s => { s with a := 0xD3, f := Flags.unpack 0xB0, pc := 0x0102 }, [], .ok, 8⟩,
   -- E-5
   ⟨id, [0x10, 0xD3], [],
    fun s => { s with f := Flags.unpack 0xB0, pc := 0x0102, stopped := true }, [], .ok, 4⟩
  ] Trial.passes = true := by
  decide

/-! ### Gates, `wake`, STOP_LENGTH, IGNORE -/

/-- S-2 and S-4: the idle steps report, and change nothing. -/
theorem test_idle_steps :
    step { State.reset with halted := true } =
      .next { State.reset with halted := true, status := .halted, cycles := 4 } ∧
    step { State.reset with stopped := true } =
      .next { State.reset with stopped := true, status := .stopped, cycles := 4 } :=
  ⟨rfl, rfl⟩

/-- S-3, third step: after the `wake` the byte after HALT is executed; A=0x02, F=0x10. -/
theorem test_wake_resumes :
    step ({ State.reset with halted := true, pc := 0x0101, wakeIn := [true] }.placeBytes 0x0101 [0x3C]) =
      .next { State.reset with
        rom := [(0x0101, 0x3C)], a := 0x02, f := Flags.unpack 0x10, pc := 0x0102, bus := [.read 0x0101 0x3C]
        status := .ok, cycles := 4 } := by
  rfl

/-- E-7: a `wake` does not clear the fault. -/
theorem test_wake_keeps_fault :
    step ({ State.reset with fault := some 0xD3, wakeIn := [true] }.placeBytes 0x0100 [0x76]) =
      .next { State.reset with
        rom := [(0x0100, 0x76)], fault := some 0xD3, status := .illegal 0xD3, cycles := 0 } := by
  rfl

/-- E-6, second step: an illegal byte from the external region. -/
theorem test_illegal_external :
    step { State.reset with pc := 0xC000, extIn := [0xE4] } =
      .next { State.reset with
        pc := 0xC001, fault := some 0xE4, bus := [.read 0xC000 0xE4], status := .illegal 0xE4, cycles := 0 } := by
  rfl

/-- S-5, first step: with STOP_LENGTH 1 the byte after STOP is not fetched. -/
theorem test_stop_length_one :
    step ({ State.reset with stopLength := .one }.placeBytes 0x0100 [0x10, 0x3C]) =
      .next { State.reset with
        stopLength := .one, rom := [(0x0100, 0x10), (0x0101, 0x3C)], stopped := true, pc := 0x0101
        bus := [.read 0x0100 0x10], status := .ok, cycles := 4 } := by
  rfl

/-- L-14 under IGNORE: the write of 0x66 to 0x0000 is no transaction and changes nothing. -/
theorem test_ignored_write :
    step ({ State.reset with romWritePolicy := .ignore, h := 0x00, l := 0x00, a := 0x66 }.placeBytes 0x0100 [0x32]) =
      .next { State.reset with
        romWritePolicy := .ignore, h := 0xFF, l := 0xFF, a := 0x66, rom := [(0x0100, 0x32)], pc := 0x0101
        bus := [.read 0x0100 0x32], status := .ok, cycles := 8 } := by
  rfl

/-- X2 (POP AF of 0x12FF): AF reads 0x12F0. -/
theorem test_af_mask : (State.reset.setAF 0x12FF).af = 0x12F0 ∧ State.reset.af = 0x01B0 := by decide

/-! ### The mux (M-1 to M-3) -/

/-- M-1: image byte 0x4000 in the second bank; M-2: with one bank 0x4000 shows image byte 0x0000; M-3: with four banks the
window still ends at image byte 0x7FFF. -/
theorem test_mux :
    ({ State.reset with rom := [(0x4000, 0x11)] }).memByte 0x4000 = 0x11 ∧
    ({ State.reset with bankCount := 1, currentIndex := 0, rom := [(0x0000, 0x22)] }).memByte 0x4000 = 0x22 ∧
    ({ State.reset with bankCount := 4, rom := [(0x7FFF, 0x33), (0x8000, 0x44)] }).memByte 0x7FFF = 0x33 := by
  decide

/-- R83: the logo of the base image, its first and last byte, and zeros around it. -/
theorem test_base_image_logo :
    [0x103, 0x104, 0x133, 0x134].map Memory.unlisted = [0x00, 0xCE, 0x3E, 0x00] := by
  decide

/-! ### Header validation (H-1 to H-15): the image by its length and the bytes that differ from the base image -/

/-- The first 0x150 bytes of the base image with some bytes changed. -/
def front (changes : List (Nat × Byte)) : List Byte :=
  (List.range 0x150).map fun i => ((changes.find? fun c => c.1 == i).map (·.2)).getD (Memory.unlisted i)

/-- The error of a validation. -/
def errorOf (length : Nat) (changes : List (Nat × Byte)) : Option ConstructError :=
  match validateHeader Params.default length (front changes) with
  | .ok _ => none
  | .error err => some err

/-- H-2 to H-10. -/
theorem test_header_errors :
    [errorOf 0x140 [], errorOf 0x14F [], errorOf 0x150 [], errorOf 32768 [(0x104, 0xCF)],
     errorOf 0x8001 [(0x104, 0xCF)], errorOf 32768 [(0x147, 0x04)], errorOf 32768 [(0x147, 0x04), (0x148, 0x09)],
     errorOf 32768 [(0x147, 0x13), (0x148, 0x09)], errorOf 32768 [(0x148, 0x52), (0x149, 0x01)]] =
    [some .romTooSmall, some .romTooSmall, some .misalignedRomSize, some .logoMismatch,
     some .misalignedRomSize, some .unrecognizedCartridgeType, some .unrecognizedCartridgeType,
     some .unrecognizedRomSizeCode, some .unrecognizedRamSizeCode] := by
  decide

/-- H-1: TETRIS. -/
theorem test_header_tetris :
    validateHeader Params.default 32768
      (front [(0x134, 0x54), (0x135, 0x45), (0x136, 0x54), (0x137, 0x52), (0x138, 0x49), (0x139, 0x53)]) =
    .ok { title := [0x54, 0x45, 0x54, 0x52, 0x49, 0x53] ++ List.replicate 10 0x00, licensee := 0, cgbSupport := false
          sgbSupport := false, cartType := 0x00, romBanks := 2, ramBanks := 0 } := by
  decide

/-- H-11: the new licensee scheme, CGB and SGB. -/
theorem test_header_new_scheme :
    validateHeader Params.default 32768
      (front [(0x143, 0xC0), (0x144, 0x30), (0x145, 0x31), (0x146, 0x03), (0x147, 0x1B), (0x148, 0x05), (0x149, 0x03),
        (0x14B, 0x33)]) =
    .ok { title := List.replicate 15 0x00 ++ [0xC0], licensee := 1, cgbSupport := true
          sgbSupport := true, cartType := 0x1B, romBanks := 64, ramBanks := 4 } := by
  decide

/-- H-12 and H-15: the old scheme's byte is 0x148; the largest codes. -/
theorem test_header_old_scheme :
    (validateHeader Params.default 32768 (front [(0x143, 0x80), (0x148, 0x54), (0x149, 0x05)])).toOption.map
      (fun h => (h.licensee, h.cgbSupport, h.romBanks, h.ramBanks)) = some (0x54, false, 96, 8) ∧
    (validateHeader Params.default 65536 (front [(0x148, 0x08), (0x149, 0x04)])).toOption.map
      (fun h => (h.licensee, h.romBanks, h.ramBanks)) = some (0x08, 512, 16) := by
  decide

/-! ### The host's two questions -/

/-- `withFetchWord` places what `step` fetches: in ROM after reset, at the edge of the window, and outside it. -/
theorem test_withFetchWord :
    (step (State.reset.withFetchWord 16 0xCBCB) =
      .next { State.reset with
        e := 0xDA, pc := 0x0102, rom := [(0x0100, 0xCB), (0x0101, 0xCB)]
        bus := [.read 0x0101 0xCB, .read 0x0100 0xCB], cycles := 8 }) ∧
    (step (({ State.reset with pc := 0x7FFF, fault := some 0xD3 }).withFetchWord 8 0x3E) =
      .next { State.reset with
        a := 0x00, pc := 0x8001, rom := [(0x7FFF, 0x3E)], bus := [.read 0x8000 0x00, .read 0x7FFF 0x3E], cycles := 8 }) ∧
    (step (({ State.reset with pc := 0xFFFF, halted := true }).withFetchWord 8 0x00) =
      .next { State.reset with pc := 0x0000, bus := [.read 0xFFFF 0x00], cycles := 4 }) :=
  ⟨rfl, rfl, rfl⟩

/-! ### Witnesses: construction -/

/-- An image of `n` bytes that agrees with the base image. -/
def imageOf (n : Nat) : List Byte := (List.range n).map Memory.unlisted

theorem imageOf_front (n : Nat) (h : 0x150 ≤ n) : (imageOf n).take 0x150 = imageOf 0x150 := by
  unfold imageOf
  rw [← List.map_take, List.take_range, Nat.min_eq_left h]

theorem imageOf_constructs (n : Nat) (h : 0x150 ≤ n) (hm : n % 16384 = 0) :
    ∃ t, construct Params.default (imageOf n) = .ok t := by
  have hl : (imageOf n).length = n := by simp [imageOf]
  have hv : ∃ header, validateRom Params.default (imageOf n) = .ok header := by
    unfold validateRom validateHeader
    rw [hl, imageOf_front n h, if_neg (Nat.not_lt.mpr h), if_neg (fun c => c hm)]
    exact ⟨_, rfl⟩
  obtain ⟨header, hv⟩ := hv
  unfold construct
  rw [hv]
  exact ⟨_, rfl⟩

/-- ConstructBuildsTheImage, BankIndexAtConstruction, ConstructionMeetsInvariant: with one bank, with two, with four. -/
theorem witness_construct :
    (∃ t, construct Params.default (imageOf 16384) = .ok t) ∧
    (∃ t, construct Params.default (imageOf 32768) = .ok t) ∧
    (∃ t, construct Params.default (imageOf 65536) = .ok t) :=
  ⟨imageOf_constructs _ (by decide) (by decide), imageOf_constructs _ (by decide) (by decide),
    imageOf_constructs _ (by decide) (by decide)⟩

/-- SizeChecks: one byte too few, and the least length that is not too small but misaligned. -/
theorem witness_size_checks :
    (imageOf 0x14F).length < 0x150 ∧ 0x150 ≤ (imageOf 0x150).length ∧ (imageOf 0x150).length % 16384 ≠ 0 := by
  simp [imageOf]

/-! ### Witnesses: the step and decoding -/

/-- A one-bank core with a changed ROM byte. -/
def oneBank : State := { State.reset with bankCount := 1, currentIndex := 0, rom := [(0x3FFF, 0x11)] }

/-- StepKeepsInvariant: a running and a halted core. -/
theorem witness_step_invariant :
    (oneBank.Inv ∧ ∃ t, step oneBank = .next t) ∧
    (({ oneBank with halted := true }).Inv ∧ ∃ t, step { oneBank with halted := true } = .next t) :=
  ⟨⟨by decide, _, rfl⟩, ⟨by decide, _, rfl⟩⟩

/-- DecodeOfEncode. -/
theorem witness_wellFormed :
    (Instr.call_nz_n16 0xFFFF).wellFormed = true ∧ (Instr.illegal 0xFD).wellFormed = true ∧
    Instr.stop.wellFormed = true := by
  decide

/-- EncodeOfDecode: an instruction with an immediate, a prefixed one, and STOP with a second byte that is not zero. -/
theorem witness_decode :
    decode .one [0xFA, 0xFF, 0xFF, 0x00] = .ok (.ld_a_atA16 0xFFFF, [0x00]) ∧
    decode .two [0xCB, 0xFF] = .ok (.set_7_a, []) ∧ decode .two [0x10, 0xD3] = .ok (.stop, []) := by
  decide

/-- IllegalEntries: an illegal opcode whose entry is the marker. -/
theorem witness_illegal : baseInstr 0xFD 0x12 0x34 = .illegal 0xFD := rfl

/-- StepRunsDecoded: one, two and three bytes at PC, in ROM, across the end of the window, and just woken. -/
theorem witness_fetched :
    (State.reset.takeWake.Running ∧ decode State.reset.stopLength (fetchBytes 1 State.reset.takeWake).1 = .ok (.nop, [])) ∧
    (let s : State := { State.reset with pc := 0x7FFF, rom := [(0x7FFF, 0xCB)], extIn := [0x37], halted := true, wakeIn := [true] }
     s.takeWake.Running ∧ decode s.stopLength (fetchBytes 2 s.takeWake).1 = .ok (.swap_a, [])) ∧
    (let s : State := { State.reset with pc := 0xFFFE, extIn := [0xC3, 0x50] }
     s.takeWake.Running ∧ decode s.stopLength (fetchBytes 3 s.takeWake).1 = .ok (.jp_n16 0x0050, [])) := by
  decide

/-- GatesInOrder: a state for each gate; the fault comes before the others. -/
theorem witness_gates :
    ({ State.reset with fault := some 0xD3, halted := true } : State).takeWake.fault = some 0xD3 ∧
    (let s : State := { State.reset with halted := true, stopped := true }
     s.takeWake.fault = none ∧ s.takeWake.halted = true) ∧
    (let s : State := { State.reset with stopped := true }
     s.takeWake.fault = none ∧ s.takeWake.halted = false ∧ s.takeWake.stopped = true) := by
  decide

/-- FaultIsSticky: with open gates, and with a closed one. -/
theorem witness_faulted :
    (let s : State := { State.reset with fault := some 0xD3, wakeIn := [true] }
     s.fault = some 0xD3 ∧ s.halted = false ∧ s.stopped = false) ∧
    ({ State.reset with fault := some 0xFD, halted := true } : State).fault = some 0xFD := by
  decide

/-- IdleUntilWake: halted and stopped, three steps, the fourth entry of the schedule is a wake. -/
theorem witness_idle :
    (let s : State := { State.reset with halted := true, wakeIn := [false, false, false, true] }
     s.fault = none ∧ (s.halted = true ∨ s.stopped = true) ∧ ∀ k < 3, s.wakeIn.getD k false = false) ∧
    (let s : State := { State.reset with stopped := true }
     s.fault = none ∧ (s.halted = true ∨ s.stopped = true) ∧ ∀ k < 3, s.wakeIn.getD k false = false) := by
  decide

/-- WakeInput: a faulted core, and a halted one. -/
theorem witness_wake :
    (let s : State := { State.reset with fault := some 0xD3, wakeIn := [true] }
     s.wakeIn = true :: [] ∧ s.fault = some 0xD3) ∧
    (let s : State := { State.reset with halted := true, wakeIn := [true, false] }
     s.wakeIn = true :: [false] ∧ s.fault = none) := by
  decide

/-- WhatNoStepChanges: a step under IGNORE that would store. -/
theorem witness_ignore_step :
    let s : State := { State.reset with romWritePolicy := .ignore, rom := [(0x0100, 0x77)] }
    s.romWritePolicy = .ignore ∧ ∃ t, step s = .next t :=
  ⟨rfl, _, rfl⟩

/-- ControlBitWriters, BusFrame, MemoryFrame, StepKeepsInvariant: instructions of each kind give a next state. -/
theorem witness_exec :
    (∃ t, exec .di State.reset = .next t) ∧ (∃ t, exec .ei State.reset = .next t) ∧
    (∃ t, exec .reti State.reset = .next t) ∧ (∃ t, exec .halt State.reset = .next t) ∧
    (∃ t, exec .stop State.reset = .next t) ∧ (∃ t, exec (.illegal 0xD3) State.reset = .next t) ∧
    (∃ t, exec (baseInstr 0x08 0xFF 0x7F) State.reset = .next t) ∧ (∃ t, exec (prefixedInstr 0x86) State.reset = .next t) :=
  ⟨⟨_, rfl⟩, ⟨_, rfl⟩, ⟨_, rfl⟩, ⟨_, rfl⟩, ⟨_, rfl⟩, ⟨_, rfl⟩, ⟨_, rfl⟩, ⟨_, rfl⟩⟩

/-- BusFrame, MemoryFrame: LD (a16),SP at the end of the window stores to 0x7FFF and 0x8000, so ROM byte 0x7FFE is outside;
NOP and BIT store to none, RES 0,(HL) to HL. -/
theorem witness_stored :
    storedTo 0x08 0xFF 0x7F State.reset = [0x7FFF, 0x8000] ∧ storedTo 0x00 0x00 0x00 State.reset = [] ∧
    prefixedStoredTo 0x46 State.reset = [] ∧ prefixedStoredTo 0x86 State.reset = [0x014D] := by
  decide

theorem witness_not_stored :
    isRom 0x7FFE = true ∧ ∀ w ∈ storedTo 0x08 0xFF 0x7F State.reset, isRom w = true →
      State.reset.romOffset w ≠ State.reset.romOffset 0x7FFE := by
  rw [witness_stored.1]
  simp [isRom, State.romOffset]

/-- FlagPcSpFrame: forms outside the lists, with a next state. -/
theorem witness_frames :
    (writesFlags 0x3E = false ∧ ∃ t, exec (baseInstr 0x3E 0xFF 0x00) State.reset = .next t) ∧
    (writesFlags 0xC0 = false ∧ ∃ t, exec (baseInstr 0xC0 0x00 0x00) State.reset = .next t) ∧
    (0x80 ≤ (0x80 : Byte).toNat ∧ ∃ t, exec (prefixedInstr 0x80) State.reset = .next t) ∧
    (writesPc 0xD3 = false ∧ ∃ t, exec (baseInstr 0xD3 0x00 0x00) State.reset = .next t) ∧
    (writesSp 0xF8 = false ∧ ∃ t, exec (baseInstr 0xF8 0x80 0x00) State.reset = .next t) :=
  ⟨⟨rfl, _, rfl⟩, ⟨rfl, _, rfl⟩, ⟨by decide, _, rfl⟩, ⟨rfl, _, rfl⟩, ⟨rfl, _, rfl⟩⟩

/-! ### Witnesses: memory -/

/-- BankedMux: the ends of each window, and a core with one bank. -/
theorem witness_windows :
    (0x0000 : Word).toNat ≤ 0x3FFF ∧ (0x3FFF : Word).toNat ≤ 0x3FFF ∧
    (0x4000 ≤ (0x4000 : Word).toNat ∧ (0x4000 : Word).toNat ≤ 0x7FFF) ∧
    (0x4000 ≤ (0x7FFF : Word).toNat ∧ (0x7FFF : Word).toNat ≤ 0x7FFF) ∧
    0x8000 ≤ (0x8000 : Word).toNat ∧ 0x8000 ≤ (0xFFFF : Word).toNat ∧ oneBank.BankOk ∧ oneBank.bankCount = 1 ∧
    State.reset.BankOk := by
  decide

/-- StoreSetsTheByte: the same byte through the two windows of a one-bank core, and another byte. -/
theorem witness_store :
    Memory.wf oneBank.rom = true ∧ oneBank.romWritePolicy = .store ∧ isRom 0x7FFF = true ∧ isRom 0x3FFF = true ∧
    oneBank.romOffset 0x3FFF = oneBank.romOffset 0x7FFF ∧ isRom 0x4000 = true ∧
    oneBank.romOffset 0x4000 ≠ oneBank.romOffset 0x7FFF := by
  decide

/-- ExternalAccesses: the ends of the external region and of the ROM windows, with IGNORE. -/
theorem witness_external :
    0x8000 ≤ (0x8000 : Word).toNat ∧ 0x8000 ≤ (0xFFFF : Word).toNat ∧ (0x7FFF : Word).toNat ≤ 0x7FFF ∧
    ({ State.reset with romWritePolicy := .ignore } : State).romWritePolicy = .ignore := by
  decide

/-- PopAfterPush, CallThenReturn: the stack at the top of the ROM windows, at the bottom, and across the two. -/
theorem witness_rom_stack :
    [(0x8000 : Word), 0x0002, 0x4001].all (fun x =>
      let s : State := { State.reset with sp := x }
      Memory.wf s.rom && s.romWritePolicy == .store && isRom (s.sp - 1) && isRom (s.sp - 2)) = true := by
  decide

/-! ### Witnesses: the forms -/

/-- LoadRegReg, LoadRegMem, LoadImmediate, SwapTwice: the register codes are all but 6. -/
theorem witness_register_codes :
    [(0 : BitVec 3), 1, 2, 3, 4, 5, 7].map Operand8.ofCode =
      [.reg .b, .reg .c, .reg .d, .reg .e, .reg .h, .reg .l, .reg .a] := by
  decide

/-- PushAndPop: a pair that is not AF. -/
theorem witness_pop_pair : (2 : BitVec 2) ≠ 3 := by decide

/-- AddWithCarry, SubtractAndCompare, LogicOperations: each form of every ALU operation. -/
theorem witness_alu_forms (y : BitVec 3) (s : State) (n : Byte) :
    AluForm y s (baseInstr (byteXYZ 2 y 0) 0 0) s.b s 4 ∧ AluForm y s (baseInstr (byteXYZ 2 y 7) 0 0) s.a s 4 ∧
    AluForm y s (baseInstr (byteXYZ 2 y 6) 0 0) (s.memByte s.hl) (s.afterRead s.hl) 8 ∧
    AluForm y s (baseInstr (byteXYZ 3 y 6) n 0) n s 8 :=
  ⟨.reg 0 .b 0 0 rfl, .reg 7 .a 0 0 rfl, .atHL 0 0, .imm n 0⟩

/-- The names behind the forms. -/
theorem witness_alu_names (n : Byte) :
    baseInstr (byteXYZ 2 0 0) 0 0 = .add_a_b ∧ baseInstr (byteXYZ 2 3 6) 0 0 = .sbc_a_atHL ∧
    baseInstr (byteXYZ 3 7 6) n 0 = .cp_a_n8 n :=
  ⟨rfl, rfl, rfl⟩

/-- IncrementDecrement, PrefixedShifts, BitTest, BitClearAndSet: a register form and the (HL) form. -/
theorem witness_modify_forms (s : State) :
    ModifyForm 4 12 s 1 s.c s (fun w => s.setReg8 .c w) 4 ∧ ModifyForm 8 16 s 7 s.a s (fun w => s.setReg8 .a w) 8 ∧
    ModifyForm 8 12 s 6 (s.memByte s.hl) (s.afterRead s.hl) (fun w => (s.afterRead s.hl).memWrite s.hl w) 12 :=
  ⟨.reg 1 .c rfl, .reg 7 .a rfl, .atHL⟩

/-- DecimalArithmetic: the ends of the range. -/
theorem witness_decimal :
    ({ State.reset with a := 0x99 } : State).a = bcd 99 ∧ ({ State.reset with a := 0x00 } : State).a = bcd 0 ∧
    99 < 100 ∧ 0 < 100 := by
  decide

end Sys2Proof.Tests
end

section
/-! SUPPORT. The shared operations as data: what each answers, the state that it leaves as a total function, and which of
the flags, PC, SP and control bits it writes. A rule about what instructions leave unchanged is a rule about these. -/

namespace Sys2Proof.Proofs

open Sys2Proof.Machine Sys2Proof.Laws

/-- One shared operation with its operands and cycle counts: the constructors are those of `Laws.Does`. -/
inductive Action where
  | load8 (dst : Operand8) (src : Source8) (n : Nat)
  | load16 (dst : Reg16) (v : Word) (n : Nat)
  | storeSP (x : Word) (n : Nat)
  | loadHLSP (e : Byte) (n : Nat)
  | pushReg (r : StackReg) (n : Nat)
  | popReg (r : StackReg) (n : Nat)
  | alu (op : AluOp) (src : Source8) (n : Nat)
  | incOperand (o : Operand8) (n : Nat)
  | decOperand (o : Operand8) (n : Nat)
  | daaAcc (n : Nat)
  | cplAcc (n : Nat)
  | setCarry (n : Nat)
  | complementCarry (n : Nat)
  | incReg16 (r : Reg16) (n : Nat)
  | decReg16 (r : Reg16) (n : Nat)
  | addHLReg16 (r : Reg16) (n : Nat)
  | addSP (e : Byte) (n : Nat)
  | rotateAcc (op : ShiftOp) (n : Nat)
  | shiftOperand (op : ShiftOp) (o : Operand8) (n : Nat)
  | bitTest (u : Nat) (o : Operand8) (n : Nat)
  | bitClear (u : Nat) (o : Operand8) (n : Nat)
  | bitSet (u : Nat) (o : Operand8) (n : Nat)
  | jump (k : Cond) (x : Word) (m n : Nat)
  | jumpRelative (k : Cond) (e : Byte) (m n : Nat)
  | call (k : Cond) (x : Word) (m n : Nat)
  | ret (k : Cond) (m n : Nat)
  | retEnable (n : Nat)
  | complete (n : Nat)
  | enterHalt (n : Nat)
  | enterStop (n : Nat)
  | writeIme (v : Bool) (n : Nat)
  | raiseIllegalOpcode (op : Byte)

/-- What an action answers: its shared operation. -/
def Action.run (s : State) : Action → Result
  | .load8 dst src n => Machine.load8 dst src n s
  | .load16 dst v n => Machine.load16 dst v n s
  | .storeSP x n => Machine.storeSP x n s
  | .loadHLSP e n => Machine.loadHLSP e n s
  | .pushReg r n => Machine.pushReg r n s
  | .popReg r n => Machine.popReg r n s
  | .alu op src n => Machine.alu op src n s
  | .incOperand o n => Machine.incOperand o n s
  | .decOperand o n => Machine.decOperand o n s
  | .daaAcc n => Machine.daaAcc n s
  | .cplAcc n => Machine.cplAcc n s
  | .setCarry n => Machine.setCarry n s
  | .complementCarry n => Machine.complementCarry n s
  | .incReg16 r n => Machine.incReg16 r n s
  | .decReg16 r n => Machine.decReg16 r n s
  | .addHLReg16 r n => Machine.addHLReg16 r n s
  | .addSP e n => Machine.addSP e n s
  | .rotateAcc op n => Machine.rotateAcc op n s
  | .shiftOperand op o n => Machine.shiftOperand op o n s
  | .bitTest u o n => Machine.bitTest u o n s
  | .bitClear u o n => Machine.bitClear u o n s
  | .bitSet u o n => Machine.bitSet u o n s
  | .jump k x m n => Machine.jump k x m n s
  | .jumpRelative k e m n => Machine.jumpRelative k e m n s
  | .call k x m n => Machine.call k x m n s
  | .ret k m n => Machine.ret k m n s
  | .retEnable n => Machine.retEnable n s
  | .complete n => s.complete n
  | .enterHalt n => Machine.enterHalt n s
  | .enterStop n => Machine.enterStop n s
  | .writeIme v n => Machine.writeIme v n s
  | .raiseIllegalOpcode op => .next (s.raiseIllegalOpcode op)

/-- The state that an action leaves, as the laws of `Sys2Proof/Laws/Ops.lean` give it. -/
def Action.next (s : State) : Action → State
  | .load8 dst src n => ((s.readSource src).2.writeOperand dst (s.readSource src).1).report .ok n
  | .load16 dst v n => (s.setReg16 dst v).report .ok n
  | .storeSP x n => ((s.memWrite x (loByte s.sp)).memWrite (x + 1) (hiByte s.sp)).report .ok n
  | .loadHLSP e n => ({ s.setHL (spAddE8 s.sp e).1 with f := (spAddE8 s.sp e).2 }).report .ok n
  | .pushReg r n => (s.push16 (s.stackReg r)).report .ok n
  | .popReg r n => (s.pop16.2.setStackReg r s.pop16.1).report .ok n
  | .alu op src n =>
    let t := (s.readSource src).2
    let w := op.apply t.a (s.readSource src).1 t.f
    ({ t with a := w.1, f := w.2 }).report .ok n
  | .incOperand o n =>
    let t := (s.readOperand o).2
    let w := inc8 (s.readOperand o).1 t.f
    ({ t.writeOperand o w.1 with f := w.2 }).report .ok n
  | .decOperand o n =>
    let t := (s.readOperand o).2
    let w := dec8 (s.readOperand o).1 t.f
    ({ t.writeOperand o w.1 with f := w.2 }).report .ok n
  | .daaAcc n => ({ s with a := (daa s.a s.f).1, f := (daa s.a s.f).2 }).report .ok n
  | .cplAcc n => ({ s with a := ~~~s.a, f := { s.f with n := true, h := true } }).report .ok n
  | .setCarry n => ({ s with f := { s.f with n := false, h := false, c := true } }).report .ok n
  | .complementCarry n => ({ s with f := { s.f with n := false, h := false, c := !s.f.c } }).report .ok n
  | .incReg16 r n => (s.setReg16 r (s.reg16 r + 1)).report .ok n
  | .decReg16 r n => (s.setReg16 r (s.reg16 r - 1)).report .ok n
  | .addHLReg16 r n =>
    ({ s.setHL (addHL s.hl (s.reg16 r) s.f).1 with f := (addHL s.hl (s.reg16 r) s.f).2 }).report .ok n
  | .addSP e n => ({ s with sp := (spAddE8 s.sp e).1, f := (spAddE8 s.sp e).2 }).report .ok n
  | .rotateAcc op n =>
    ({ s with a := (op.apply s.a s.f.c).1, f := accRotateFlags (op.apply s.a s.f.c).2 }).report .ok n
  | .shiftOperand op o n =>
    let t := (s.readOperand o).2
    let w := op.apply (s.readOperand o).1 t.f.c
    ({ t.writeOperand o w.1 with f := shiftFlags w.1 w.2 }).report .ok n
  | .bitTest u o n =>
    let t := (s.readOperand o).2
    ({ t with f := bitFlags (s.readOperand o).1 u t.f }).report .ok n
  | .bitClear u o n => ((s.readOperand o).2.writeOperand o (clearBit (s.readOperand o).1 u)).report .ok n
  | .bitSet u o n => ((s.readOperand o).2.writeOperand o (setBit (s.readOperand o).1 u)).report .ok n
  | .jump k x m n => if s.cond k then ({ s with pc := x }).report .ok m else s.report .ok n
  | .jumpRelative k e m n => if s.cond k then ({ s with pc := s.pc + sext16 e }).report .ok m else s.report .ok n
  | .call k x m n => if s.cond k then ({ s.push16 s.pc with pc := x }).report .ok m else s.report .ok n
  | .ret k m n => if s.cond k then ({ s.pop16.2 with pc := s.pop16.1 }).report .ok m else s.report .ok n
  | .retEnable n => ({ s.pop16.2 with pc := s.pop16.1, ime := true }).report .ok n
  | .complete n => s.report .ok n
  | .enterHalt n => ({ s with halted := true }).report .ok n
  | .enterStop n => ({ s with stopped := true }).report .ok n
  | .writeIme v n => ({ s with ime := v }).report .ok n
  | .raiseIllegalOpcode op => s.raiseIllegalOpcode op

/-- An action answers the state that it leaves. -/
theorem Action.run_eq_next (a : Action) (s : State) : a.run s = .next (a.next s) := by
  cases a
  case jump k x m n => exact jump_eq k x m n s
  case jumpRelative k e m n => exact jumpRelative_eq k e m n s
  case call k x m n => exact call_eq k x m n s
  case ret k m n => exact ret_eq k m n s
  all_goals rfl

/-- The constructors of `Laws.Does` are actions. -/
theorem does_run {s : State} {r : Result} (h : Does s r) : ∃ a : Action, r = a.run s :=
  match h with
  | .load8 dst src n => ⟨.load8 dst src n, rfl⟩
  | .load16 dst v n => ⟨.load16 dst v n, rfl⟩
  | .storeSP x n => ⟨.storeSP x n, rfl⟩
  | .loadHLSP e n => ⟨.loadHLSP e n, rfl⟩
  | .pushReg r n => ⟨.pushReg r n, rfl⟩
  | .popReg r n => ⟨.popReg r n, rfl⟩
  | .alu op src n => ⟨.alu op src n, rfl⟩
  | .incOperand o n => ⟨.incOperand o n, rfl⟩
  | .decOperand o n => ⟨.decOperand o n, rfl⟩
  | .daaAcc n => ⟨.daaAcc n, rfl⟩
  | .cplAcc n => ⟨.cplAcc n, rfl⟩
  | .setCarry n => ⟨.setCarry n, rfl⟩
  | .complementCarry n => ⟨.complementCarry n, rfl⟩
  | .incReg16 r n => ⟨.incReg16 r n, rfl⟩
  | .decReg16 r n => ⟨.decReg16 r n, rfl⟩
  | .addHLReg16 r n => ⟨.addHLReg16 r n, rfl⟩
  | .addSP e n => ⟨.addSP e n, rfl⟩
  | .rotateAcc op n => ⟨.rotateAcc op n, rfl⟩
  | .shiftOperand op o n => ⟨.shiftOperand op o n, rfl⟩
  | .bitTest u o n => ⟨.bitTest u o n, rfl⟩
  | .bitClear u o n => ⟨.bitClear u o n, rfl⟩
  | .bitSet u o n => ⟨.bitSet u o n, rfl⟩
  | .jump k x m n => ⟨.jump k x m n, rfl⟩
  | .jumpRelative k e m n => ⟨.jumpRelative k e m n, rfl⟩
  | .call k x m n => ⟨.call k x m n, rfl⟩
  | .ret k m n => ⟨.ret k m n, rfl⟩
  | .retEnable n => ⟨.retEnable n, rfl⟩
  | .complete n => ⟨.complete n, rfl⟩
  | .enterHalt n => ⟨.enterHalt n, rfl⟩
  | .enterStop n => ⟨.enterStop n, rfl⟩
  | .writeIme v n => ⟨.writeIme v n, rfl⟩
  | .raiseIllegalOpcode op => ⟨.raiseIllegalOpcode op, rfl⟩

/-- Every instruction answers the state of one action. -/
theorem exec_eq_next (i : Instr) (s : State) : ∃ a : Action, exec i s = .next (a.next s) := by
  obtain ⟨a, ha⟩ := does_run (exec_does i s)
  exact ⟨a, ha.trans (a.run_eq_next s)⟩

/-! ### What no action writes -/

@[simp] theorem Action.next_bankCount (a : Action) (s : State) : (a.next s).bankCount = s.bankCount := by
  cases a
  case jump k _ _ _ | jumpRelative k _ _ _ | call k _ _ _ | ret k _ _ =>
    cases hk : s.cond k <;> simp [Action.next, hk]
  all_goals simp [Action.next]

@[simp] theorem Action.next_currentIndex (a : Action) (s : State) : (a.next s).currentIndex = s.currentIndex := by
  cases a
  case jump k _ _ _ | jumpRelative k _ _ _ | call k _ _ _ | ret k _ _ =>
    cases hk : s.cond k <;> simp [Action.next, hk]
  all_goals simp [Action.next]

/-! ### Which actions write the flags, PC, SP and the control bits -/

/-- Whether an action may write the flags. -/
def Action.writesFlags : Action → Bool
  | .popReg r _ => r == .af
  | .loadHLSP _ _ | .alu _ _ _ | .incOperand _ _ | .decOperand _ _ | .daaAcc _ | .cplAcc _ | .setCarry _
  | .complementCarry _ | .addHLReg16 _ _ | .addSP _ _ | .rotateAcc _ _ | .shiftOperand _ _ _ | .bitTest _ _ _ => true
  | _ => false

/-- Whether an action may write PC. -/
def Action.writesPc : Action → Bool
  | .jump _ _ _ _ | .jumpRelative _ _ _ _ | .call _ _ _ _ | .ret _ _ _ | .retEnable _ => true
  | _ => false

/-- Whether an action may write SP. -/
def Action.writesSp : Action → Bool
  | .load16 r _ _ | .incReg16 r _ | .decReg16 r _ => r == .sp
  | .pushReg _ _ | .popReg _ _ | .addSP _ _ | .call _ _ _ _ | .ret _ _ _ | .retEnable _ => true
  | _ => false

/-- Whether an action writes IME, a gate or the fault. -/
def Action.writesControl : Action → Bool
  | .retEnable _ | .enterHalt _ | .enterStop _ | .writeIme _ _ | .raiseIllegalOpcode _ => true
  | _ => false

theorem setStackReg_f {r : StackReg} (h : r ≠ .af) (s : State) (v : Word) : (s.setStackReg r v).f = s.f := by
  cases r
  case af => exact absurd rfl h
  all_goals rfl

theorem setReg16_sp {r : Reg16} (h : r ≠ .sp) (s : State) (v : Word) : (s.setReg16 r v).sp = s.sp := by
  cases r
  case sp => exact absurd rfl h
  all_goals rfl

theorem Action.next_f {a : Action} (h : a.writesFlags = false) (s : State) : (a.next s).f = s.f := by
  cases a
  case loadHLSP | alu | incOperand | decOperand | daaAcc | cplAcc | setCarry | complementCarry | addHLReg16 | addSP
    | rotateAcc | shiftOperand | bitTest => cases h
  case popReg r n =>
    have hr : r ≠ .af := by simpa [Action.writesFlags] using h
    simp [Action.next, setStackReg_f hr]
  case jump k _ _ _ | jumpRelative k _ _ _ | call k _ _ _ | ret k _ _ =>
    cases hk : s.cond k <;> simp [Action.next, hk]
  all_goals simp [Action.next]

theorem Action.next_pc {a : Action} (h : a.writesPc = false) (s : State) : (a.next s).pc = s.pc := by
  cases a
  case jump | jumpRelative | call | ret | retEnable => cases h
  all_goals simp [Action.next]

theorem Action.next_sp {a : Action} (h : a.writesSp = false) (s : State) : (a.next s).sp = s.sp := by
  cases a
  case pushReg | popReg | addSP | call | ret | retEnable => cases h
  case load16 r _ _ | incReg16 r _ | decReg16 r _ =>
    have hr : r ≠ .sp := by simpa [Action.writesSp] using h
    simp [Action.next, setReg16_sp hr]
  case jump k _ _ _ | jumpRelative k _ _ _ => cases hk : s.cond k <;> simp [Action.next, hk]
  all_goals simp [Action.next]

theorem Action.next_control {a : Action} (h : a.writesControl = false) (s : State) :
    (a.next s).ime = s.ime ∧ (a.next s).halted = s.halted ∧ (a.next s).stopped = s.stopped ∧
      (a.next s).fault = s.fault := by
  cases a
  case retEnable | enterHalt | enterStop | writeIme | raiseIllegalOpcode => cases h
  case jump k _ _ _ | jumpRelative k _ _ _ | call k _ _ _ | ret k _ _ =>
    cases hk : s.cond k <;> simp [Action.next, hk]
  all_goals simp [Action.next]

end Sys2Proof.Proofs
end

section
/-! SUPPORT. The bus writes of an action as a list of addresses and bytes, and the ROM array after an action as the array
after these writes: what an action leaves of memory is then a matter of one write at a time. -/

namespace Sys2Proof.Proofs

open Sys2Proof.Machine Sys2Proof.Laws Sys2Proof.Claims

/-- The writes of a list, one after the other. -/
def writeAll (s : State) : List (Word × Byte) → State
  | [] => s
  | (x, v) :: rest => writeAll (s.memWrite x v) rest

/-- The write of a byte to an operand: none to a register. -/
def operandWrites (o : Operand8) (s : State) (v : Byte) : List (Word × Byte) :=
  match o with
  | .reg _ => []
  | .mem m => [(s.ea m, v)]

/-- The two writes of Push16 (R96). -/
def pushWrites (s : State) (v : Word) : List (Word × Byte) := [(s.sp - 1, hiByte v), (s.sp - 2, loByte v)]

/-- The bus writes of an action, in their order. -/
def Action.writes (s : State) : Action → List (Word × Byte)
  | .load8 dst src _ => operandWrites dst (s.readSource src).2 (s.readSource src).1
  | .storeSP x _ => [(x, loByte s.sp), (x + 1, hiByte s.sp)]
  | .pushReg r _ => pushWrites s (s.stackReg r)
  | .incOperand o _ => operandWrites o (s.readOperand o).2 (inc8 (s.readOperand o).1 (s.readOperand o).2.f).1
  | .decOperand o _ => operandWrites o (s.readOperand o).2 (dec8 (s.readOperand o).1 (s.readOperand o).2.f).1
  | .shiftOperand op o _ =>
    operandWrites o (s.readOperand o).2 (op.apply (s.readOperand o).1 (s.readOperand o).2.f.c).1
  | .bitClear u o _ => operandWrites o (s.readOperand o).2 (clearBit (s.readOperand o).1 u)
  | .bitSet u o _ => operandWrites o (s.readOperand o).2 (setBit (s.readOperand o).1 u)
  | .call k _ _ _ => if s.cond k then pushWrites s s.pc else []
  | _ => []

/-- The addresses that an action stores to: none for a call that is not taken (R387). -/
def Action.stored (s : State) : Action → List Word
  | .call k _ _ _ => if s.cond k then [s.sp - 1, s.sp - 2] else []
  | a => (a.writes s).map Prod.fst

/-- The addresses are those of the writes. -/
theorem Action.stored_eq (a : Action) (s : State) : a.stored s = (a.writes s).map Prod.fst := by
  cases a
  case call k _ _ _ => cases h : s.cond k <;> simp [Action.stored, Action.writes, pushWrites, h]
  all_goals rfl

@[simp] theorem writeAll_currentIndex (s : State) (ws : List (Word × Byte)) :
    (writeAll s ws).currentIndex = s.currentIndex := by
  induction ws generalizing s with
  | nil => rfl
  | cons w rest ih => simp [writeAll, ih]

@[simp] theorem writeAll_bankCount (s : State) (ws : List (Word × Byte)) :
    (writeAll s ws).bankCount = s.bankCount := by
  induction ws generalizing s with
  | nil => rfl
  | cons w rest ih => simp [writeAll, ih]

/-- The ROM array after writes depends on the array, the bank index and the write policy before them alone. -/
theorem writeAll_rom_congr {s t : State} (hr : t.rom = s.rom) (hi : t.currentIndex = s.currentIndex)
    (hp : t.romWritePolicy = s.romWritePolicy) (ws : List (Word × Byte)) :
    (writeAll t ws).rom = (writeAll s ws).rom := by
  induction ws generalizing s t with
  | nil => exact hr
  | cons w rest ih =>
    exact ih (by simp only [memWrite_rom, romOffset_congr hi, hr, hp]) (by simp [hi]) (by simp [hp])

theorem writeOperand_rom (t : State) (o : Operand8) (v : Byte) :
    (t.writeOperand o v).rom = (writeAll t (operandWrites o t v)).rom := by
  cases o with
  | reg r => exact State.setReg8_rom t r v
  | mem m => exact State.postModify_rom _ m

/-- A write to an operand that was read: the read has left the ROM array alone. -/
theorem readOperand_writeOperand_rom (s : State) (q o : Operand8) (v : Byte) :
    ((s.readOperand q).2.writeOperand o v).rom = (writeAll s (operandWrites o (s.readOperand q).2 v)).rom := by
  rw [writeOperand_rom]
  exact writeAll_rom_congr (by simp) (by simp) (by simp) _

theorem readSource_writeOperand_rom (s : State) (src : Source8) (o : Operand8) (v : Byte) :
    ((s.readSource src).2.writeOperand o v).rom = (writeAll s (operandWrites o (s.readSource src).2 v)).rom := by
  rw [writeOperand_rom]
  exact writeAll_rom_congr (by simp) (by simp) (by simp) _

theorem push16_rom (s : State) (v : Word) : (s.push16 v).rom = (writeAll s (pushWrites s v)).rom := by
  have h : s.sp - 1 - 1 = s.sp - 2 := by rw [BitVec.sub_sub]; rfl
  rw [push16_eq, h]
  rfl

/-- The ROM array after an action is that after its writes. -/
theorem Action.next_rom (a : Action) (s : State) : (a.next s).rom = (writeAll s (a.writes s)).rom := by
  cases a
  case load8 => exact readSource_writeOperand_rom ..
  case incOperand | decOperand | shiftOperand | bitClear | bitSet => exact readOperand_writeOperand_rom ..
  case pushReg => exact push16_rom ..
  case storeSP => rfl
  case call k _ _ _ => cases h : s.cond k <;> simp [Action.next, Action.writes, h, push16_rom, writeAll]
  case jump k _ _ _ | jumpRelative k _ _ _ | ret k _ _ =>
    cases hk : s.cond k <;> simp [Action.next, Action.writes, hk, writeAll]
  all_goals simp [Action.next, Action.writes, writeAll]

/-! ### A ROM byte that nothing is written to -/

/-- One write leaves every ROM byte but its own. -/
theorem memoryKept_memWrite (s : State) (w : Word) (v : Byte) : MemoryKept [w] s (s.memWrite w v) := by
  intro x hx hw
  have hi : (s.memWrite w v).currentIndex = s.currentIndex := by simp
  rw [memByte_rom _ x hx, memByte_rom s x hx, romOffset_congr hi, memWrite_rom]
  split
  case isTrue h => exact read_write_other _ _ _ _ (hw w List.mem_cons_self h.1).symm
  case isFalse => rfl

/-- Writes leave every ROM byte but those at their addresses. -/
theorem memoryKept_writeAll (s : State) (ws : List (Word × Byte)) :
    MemoryKept (ws.map Prod.fst) s (writeAll s ws) := by
  induction ws generalizing s with
  | nil => exact fun x _ _ => rfl
  | cons w rest ih =>
    obtain ⟨w, v⟩ := w
    intro x hx hws
    have hi : (s.memWrite w v).currentIndex = s.currentIndex := by simp
    have hrest := ih (s.memWrite w v) x hx fun u hu hrom => by
      rw [romOffset_congr hi, romOffset_congr hi]
      exact hws u (List.mem_cons_of_mem _ hu) hrom
    have hfirst := memoryKept_memWrite s w v x hx fun u hu hrom =>
      hws u (List.mem_singleton.mp hu ▸ List.mem_cons_self) hrom
    exact hrest.trans hfirst

/-- An action leaves every ROM byte but those at the addresses that it stores to. -/
theorem Action.next_memoryKept (a : Action) (s : State) : MemoryKept (a.stored s) s (a.next s) := by
  rw [a.stored_eq s]
  intro x hx hws
  have hnext : (a.next s).memByte x = (writeAll s (a.writes s)).memByte x :=
    memByte_congr (a.next_rom s) (by simp) x hx
  exact hnext.trans (memoryKept_writeAll s (a.writes s) x hx hws)

/-! ### The cartridge part of the invariant -/

/-- Whether the ROM list is canonical and inside the image depends on the list and the bank count alone. -/
theorem romOk_congr {s t : State} (hr : t.rom = s.rom) (hb : t.bankCount = s.bankCount) : t.RomOk ↔ s.RomOk := by
  unfold State.RomOk
  rw [hr, hb]

theorem bankOk_congr {s t : State} (hb : t.bankCount = s.bankCount) (hi : t.currentIndex = s.currentIndex) :
    t.BankOk ↔ s.BankOk := by
  unfold State.BankOk
  rw [hb, hi]

theorem writeAll_romOk {s : State} (hb : s.BankOk) (hr : s.RomOk) (ws : List (Word × Byte)) :
    (writeAll s ws).RomOk := by
  induction ws generalizing s with
  | nil => exact hr
  | cons w rest ih => exact ih ((bankOk_congr (by simp) (by simp)).mpr hb) (memWrite_romOk hb hr w.1 w.2)

/-- Every action keeps the cartridge part of the invariant. -/
theorem Action.next_cartridgeOk (a : Action) {s : State} (hr : s.RomOk) (hb : s.BankOk) :
    (a.next s).RomOk ∧ (a.next s).BankOk :=
  ⟨(romOk_congr (a.next_rom s) (by simp)).mpr (writeAll_romOk hb hr (a.writes s)),
    (bankOk_congr (by simp) (by simp)).mpr hb⟩

end Sys2Proof.Proofs
end

section
/-! SUPPORT. The invariant of `Sys2Proof/Safety.lean`: every step keeps it. -/

namespace Sys2Proof.Proofs

open Sys2Proof.Machine Sys2Proof.Laws

/-- In a running core no gate is closed, and an action closes at most one. -/
theorem Action.next_gatesExclusive (a : Action) {s : State} (h : s.Running) : (a.next s).GatesExclusive := by
  obtain ⟨hf, hh, hs⟩ := h
  cases hc : a.writesControl with
  | false =>
    obtain ⟨-, eh, es, ef⟩ := a.next_control hc s
    simp [State.GatesExclusive, eh, es, ef, hf, hh, hs]
  | true =>
    cases a
    case retEnable | enterHalt | enterStop | writeIme | raiseIllegalOpcode =>
      simp [State.GatesExclusive, Action.next, hf, hh, hs]
    all_goals cases hc

/-- The environment's event closes no gate. -/
theorem takeWake_gatesExclusive {s : State} (h : s.GatesExclusive) : s.takeWake.GatesExclusive := by
  unfold State.takeWake
  split
  · exact h
  · split
    · exact ⟨fun _ => ⟨rfl, rfl⟩, fun hgates => nomatch hgates.1⟩
    · exact h

/-- The environment's event keeps the invariant. -/
theorem takeWake_inv {s : State} (h : s.Inv) : s.takeWake.Inv := by
  obtain ⟨hr, hb, hg⟩ := h
  exact ⟨(romOk_congr (by simp) (by simp)).mpr hr, (bankOk_congr (by simp) (by simp)).mpr hb,
    takeWake_gatesExclusive hg⟩

/-- The execution of the fetched instruction by a running core keeps the invariant. -/
theorem exec_fetched_inv {s : State} (h : s.Inv) (hrun : s.Running) {t : State}
    (ht : exec s.fetchInstr.1 s.fetchInstr.2 = .next t) : t.Inv := by
  obtain ⟨hr, hb, -⟩ := h
  obtain ⟨a, ha⟩ := exec_eq_next s.fetchInstr.1 s.fetchInstr.2
  obtain rfl : a.next s.fetchInstr.2 = t := Host.Outcome.next.inj (ha.symm.trans ht)
  have hfr : s.fetchInstr.2.RomOk := (romOk_congr (by simp) (by simp)).mpr hr
  have hfb : s.fetchInstr.2.BankOk := (bankOk_congr (by simp) (by simp)).mpr hb
  have hfrun : s.fetchInstr.2.Running := by simpa [State.Running] using hrun
  obtain ⟨hr', hb'⟩ := a.next_cartridgeOk hfr hfb
  exact ⟨hr', hb', a.next_gatesExclusive hfrun⟩

/-- Settles O7: an idle step is a report, and a running core executes one action after its fetch. -/
theorem stepKeepsInvariant : Obligations.StepKeepsInvariant := by
  intro s t hs hstep
  rcases step_cases hstep with ⟨st, n, rfl, -⟩ | ⟨hrun, hexec⟩
  · exact takeWake_inv hs
  · exact exec_fetched_inv (takeWake_inv hs) hrun hexec

end Sys2Proof.Proofs
end

section
/-! SUPPORT. Construction and the reset state: everything a construction that succeeds builds. -/

namespace Sys2Proof.Proofs

open Sys2Proof.Machine Sys2Proof.Laws

/-- The core that construction builds from an image, once the image is valid (R491). -/
def constructed (p : Params) (image : List Byte) : State :=
  { State.reset with
    rom := imageCells 0 image
    bankCount := image.length / 16384
    currentIndex := if image.length / 16384 > 1 then 1 else 0
    romWritePolicy := p.romWritePolicy
    stopLength := p.stopLength }

/-- A valid image has at least 0x150 bytes and a whole number of banks (R81, R82). -/
theorem validateRom_length {p : Params} {image : List Byte} {header : Header} (h : validateRom p image = .ok header) :
    0x150 ≤ image.length ∧ image.length % 16384 = 0 := by
  unfold validateRom validateHeader at h
  split at h
  · cases h
  · split at h
    · cases h
    · omega

/-- Everything a construction can answer with success. -/
theorem construct_ok {p : Params} {image : List Byte} {t : State} (h : construct p image = .ok t) :
    t = constructed p image ∧ 0 < image.length ∧ image.length % 16384 = 0 := by
  unfold construct at h
  cases hv : validateRom p image with
  | error err =>
    rw [hv] at h
    cases h
  | ok header =>
    rw [hv] at h
    obtain ⟨hlow, hmod⟩ := validateRom_length hv
    exact ⟨(Except.ok.inj h).symm, by omega, hmod⟩

/-- The ROM array of a constructed core is the image (R45, R65). -/
theorem constructed_read (p : Params) (image : List Byte) {k : Nat} (h : k < image.length) :
    Memory.read (constructed p image).rom k = image.getD k 0 := by
  simpa [constructed] using read_imageCells image 0 k h

/-- The ROM list of a core built from whole banks is canonical and inside them. -/
theorem constructed_romOk (p : Params) {image : List Byte} (hmod : image.length % 16384 = 0) :
    (constructed p image).RomOk := by
  refine ⟨wfFrom_imageCells image 0, fun cell hcell => ?_⟩
  have hrange := (imageCells_range image 0 cell hcell).2
  have hbanks : (constructed p image).bankCount * 16384 = image.length :=
    Nat.div_mul_cancel (Nat.dvd_of_mod_eq_zero hmod)
  omega

theorem constructed_bankCount_pos (p : Params) {image : List Byte} (hpos : 0 < image.length)
    (hmod : image.length % 16384 = 0) : 0 < (constructed p image).bankCount :=
  Nat.div_pos (Nat.le_of_dvd hpos (Nat.dvd_of_mod_eq_zero hmod)) (by decide)

/-- The registers of a constructed core are those of the reset state (R60, R61). -/
theorem constructed_pairs (p : Params) (image : List Byte) :
    (constructed p image).af = 0x01B0 ∧ (constructed p image).bc = 0x0013 ∧ (constructed p image).de = 0x00D8 ∧
      (constructed p image).hl = 0x014D := by
  have hreset : State.reset.af = 0x01B0 ∧ State.reset.bc = 0x0013 ∧ State.reset.de = 0x00D8 ∧
      State.reset.hl = 0x014D := by decide
  exact hreset

/-- A core built from whole banks meets the invariant. -/
theorem constructed_inv (p : Params) {image : List Byte} (hpos : 0 < image.length) (hmod : image.length % 16384 = 0) :
    (constructed p image).Inv :=
  ⟨constructed_romOk p hmod, ⟨constructed_bankCount_pos p hpos hmod, rfl⟩, fun hfault => absurd rfl hfault,
    fun hgates => nomatch hgates.1⟩

/-- Settles O2: the constructed core is the reset state with the cells of the image. -/
theorem constructBuildsTheImage : Obligations.ConstructBuildsTheImage := by
  intro p image t h
  obtain ⟨rfl, hpos, hmod⟩ := construct_ok h
  obtain ⟨haf, hbc, hde, hhl⟩ := constructed_pairs p image
  exact ⟨fun k hk => constructed_read p image hk, rfl, constructed_bankCount_pos p hpos hmod, rfl, haf, hbc, hde, hhl,
    rfl, rfl, rfl, rfl, rfl, rfl, rfl, rfl, rfl⟩

/-- Settles O6: the cells of the image are canonical and inside its banks. -/
theorem constructionMeetsInvariant : Obligations.ConstructionMeetsInvariant := by
  intro p image t h
  obtain ⟨rfl, hpos, hmod⟩ := construct_ok h
  exact constructed_inv p hpos hmod

/-- Settles O23: the index of a constructed core is written as R64 says. -/
theorem bankIndexAtConstruction : Obligations.BankIndexAtConstruction := by
  intro p image t h
  obtain ⟨rfl, -, -⟩ := construct_ok h
  rfl

/-- Settles O1: the reset state is a literal. -/
theorem resetValues : Obligations.ResetValues := by
  unfold Obligations.ResetValues
  decide

/-- Settles O5: the ROM list at reset is empty, two banks have the index 1, and no gate is closed. -/
theorem resetMeetsInvariant : Obligations.ResetMeetsInvariant := by
  have hrom : State.reset.RomOk := ⟨rfl, fun _ hcell => nomatch hcell⟩
  have hbank : State.reset.BankOk := ⟨by decide, rfl⟩
  exact ⟨hrom, hbank, by decide⟩

end Sys2Proof.Proofs
end

section
/-! SUPPORT. The register-pair views and the AF view (10_state.md, R31 to R38). -/

namespace Sys2Proof.Proofs

open Sys2Proof.Machine Sys2Proof.Laws

@[simp] theorem setBC_bc (s : State) (v : Word) : (s.setBC v).bc = v := concat_hiByte_loByte v
@[simp] theorem setDE_de (s : State) (v : Word) : (s.setDE v).de = v := concat_hiByte_loByte v
@[simp] theorem setHL_hl (s : State) (v : Word) : (s.setHL v).hl = v := concat_hiByte_loByte v

theorem setBC_self (s : State) : s.setBC s.bc = s := by simp [State.setBC, State.bc]
theorem setDE_self (s : State) : s.setDE s.de = s := by simp [State.setDE, State.de]
theorem setHL_self (s : State) : s.setHL s.hl = s := by simp [State.setHL, State.hl]

/-- A pair or SP reads as what was written to it. -/
@[simp] theorem setReg16_reg16 (s : State) (r : Reg16) (v : Word) : (s.setReg16 r v).reg16 r = v := by
  cases r
  case bc => exact setBC_bc s v
  case de => exact setDE_de s v
  case hl => exact setHL_hl s v
  case sp => rfl

/-- Settles O33: joining the halves is arithmetic, and splitting and joining are inverse. -/
theorem pairViews : Obligations.PairViews := fun s v =>
  ⟨concat_toNat s.b s.c, concat_toNat s.d s.e, concat_toNat s.h s.l, setBC_bc s v, setDE_de s v, setHL_hl s v,
    rfl, rfl, rfl, setBC_self s, setDE_self s, setHL_self s⟩

/-- The packed flags as a sum of bit weights (R36). -/
theorem pack_toNat (f : Flags) :
    f.pack.toNat = f.z.toNat * 0x80 + f.n.toNat * 0x40 + f.h.toNat * 0x20 + f.c.toNat * 0x10 := by
  obtain ⟨z, n, h, c⟩ := f
  revert z n h c
  decide

/-- The low nibble of F is zero (R36). -/
theorem pack_toNat_mod (f : Flags) : f.pack.toNat % 16 = 0 := by
  rw [pack_toNat]
  omega

/-- Packing the flags of a byte clears its low nibble (R38). -/
theorem pack_unpack (v : Byte) : (Flags.unpack v).pack = v &&& 0xF0 := by
  revert v
  decide

/-- The high byte of a word as a quotient (R12). -/
theorem hiByte_eq (v : Word) : hiByte v = BitVec.ofNat 8 (v.toNat / 256) := by
  apply BitVec.eq_of_toNat_eq
  simp [hiByte, BitVec.extractLsb'_toNat, Nat.shiftRight_eq_div_pow]

/-- The bits of the low byte are those of the word. -/
theorem loByte_getLsbD (v : Word) {i : Nat} (h : i < 8) : (loByte v).getLsbD i = v.getLsbD i := by
  simp only [loByte, BitVec.getLsbD_extractLsb', h, decide_true, Bool.true_and, Nat.zero_add]

/-- Joining bytes commutes with AND. -/
theorem concat_and (a b c d : Byte) : concat (a &&& c) (b &&& d) = concat a b &&& concat c d :=
  BitVec.and_append.symm

/-- AF reads as what was written to it without its low nibble (R38). -/
theorem setAF_af (s : State) (v : Word) : (s.setAF v).af = v &&& 0xFFF0 := by
  have hmask : (0xFFF0 : Word) = concat 0xFF 0xF0 := rfl
  have hhi : hiByte v &&& (0xFF : Byte) = hiByte v := BitVec.and_allOnes
  calc (s.setAF v).af = concat (hiByte v) (Flags.unpack (loByte v)).pack := rfl
    _ = concat (hiByte v &&& 0xFF) (loByte v &&& 0xF0) := by rw [pack_unpack, hhi]
    _ = v &&& 0xFFF0 := by rw [concat_and, concat_hiByte_loByte, hmask]

/-- Writing AF sets A and the four flags by their bits, and nothing else (R38). -/
theorem setAF_eq (s : State) (v : Word) :
    s.setAF v = { s with
      a := BitVec.ofNat 8 (v.toNat / 256)
      f := { z := v.getLsbD 7, n := v.getLsbD 6, h := v.getLsbD 5, c := v.getLsbD 4 } } := by
  rw [State.setAF, Flags.unpack, hiByte_eq, loByte_getLsbD v (by decide), loByte_getLsbD v (by decide),
    loByte_getLsbD v (by decide), loByte_getLsbD v (by decide)]

/-- Settles O34: F by its bit weights, and a written AF by its bits. -/
theorem afView : Obligations.AfView := fun s v =>
  have haf : s.af.toNat = s.a.toNat * 256 + s.f.pack.toNat := concat_toNat s.a s.f.pack
  have hlow : s.af.toNat % 16 = 0 := by
    have := pack_toNat_mod s.f
    omega
  ⟨pack_toNat s.f, haf, hlow, setAF_af s v, setAF_eq s v⟩

/-! ### The pairs wrap modulo 2^16 (R32) -/

theorem word_inc_toNat (v : Word) : (v + 1).toNat = (v.toNat + 1) % 65536 := by simp [BitVec.toNat_add]

theorem word_dec_toNat (v : Word) : (v - 1).toNat = (v.toNat + 65535) % 65536 := by
  simp [BitVec.toNat_sub, Nat.add_comm]

theorem word_add_toNat (v w : Word) : (v + w).toNat = (v.toNat + w.toNat) % 65536 := BitVec.toNat_add v w

/-- The sum of ADD HL,rr (R303) is the sum of words. -/
theorem addHL_fst (h v : Word) (f : Flags) : (addHL h v f).1 = h + v := by
  apply BitVec.eq_of_toNat_eq
  simp [addHL, BitVec.toNat_add]

/-- The report of a step's outputs leaves the pairs alone. -/
@[simp] theorem report_reg16 (s : State) (st : Status) (n : Nat) (r : Reg16) : (s.report st n).reg16 r = s.reg16 r := by
  cases r <;> rfl

theorem incReg16_wraps (r : Reg16) (n : Nat) (s : State) :
    ∃ t, incReg16 r n s = .next t ∧ (t.reg16 r).toNat = ((s.reg16 r).toNat + 1) % 65536 :=
  ⟨_, incReg16_eq r n s, by rw [report_reg16, setReg16_reg16, word_inc_toNat]⟩

theorem decReg16_wraps (r : Reg16) (n : Nat) (s : State) :
    ∃ t, decReg16 r n s = .next t ∧ (t.reg16 r).toNat = ((s.reg16 r).toNat + 65535) % 65536 :=
  ⟨_, decReg16_eq r n s, by rw [report_reg16, setReg16_reg16, word_dec_toNat]⟩

theorem addHLReg16_wraps (r : Reg16) (n : Nat) (s : State) :
    ∃ t, addHLReg16 r n s = .next t ∧ t.hl.toNat = (s.hl.toNat + (s.reg16 r).toNat) % 65536 := by
  refine ⟨_, addHLReg16_eq r n s, ?_⟩
  rw [addHL_fst, ← word_add_toNat]
  exact congrArg BitVec.toNat (setHL_hl s _)

/-- Settles O28: a pair reads as the word written to it, and words add modulo 2^16. -/
theorem pairWrap : Obligations.PairWrap := by
  refine ⟨fun s r v => ?_, fun s => ?_⟩
  · rw [setReg16_reg16, setReg16_reg16, setReg16_reg16]
    exact ⟨word_inc_toNat _, word_dec_toNat _, word_add_toNat _ _⟩
  · exact ⟨incReg16_wraps .bc 8 s, incReg16_wraps .de 8 s, incReg16_wraps .hl 8 s, decReg16_wraps .bc 8 s,
      decReg16_wraps .de 8 s, decReg16_wraps .hl 8 s, addHLReg16_wraps .bc 8 s, addHLReg16_wraps .de 8 s,
      addHLReg16_wraps .hl 8 s, addHLReg16_wraps .sp 8 s⟩

end Sys2Proof.Proofs
end

section
/-! SUPPORT. The opcode maps by the fields of R121: the action of a base opcode and of a prefixed one, with the operands of
R122 to R125. The maps of `Sys2Proof/Decode.lean` are read here once; rules about instructions by opcode are then rules
about actions. -/

namespace Sys2Proof.Proofs

open Sys2Proof.Machine Sys2Proof.Laws Sys2Proof.Claims

/-- The cycles (R497) of an instruction that has a faster form on a register than on (HL). -/
def operandCycles (onReg onMem : Nat) : Operand8 → Nat
  | .reg _ => onReg
  | .mem _ => onMem

/-- The loads between A and memory of x = 0, z = 2 (R205 to R212): y selects the direction and the address. -/
def indirectLoad (y : BitVec 3) : Action :=
  match y.toNat with
  | 0 => .load8 (.mem .atBC) (.opnd (.reg .a)) 8
  | 1 => .load8 (.reg .a) (.opnd (.mem .atBC)) 8
  | 2 => .load8 (.mem .atDE) (.opnd (.reg .a)) 8
  | 3 => .load8 (.reg .a) (.opnd (.mem .atDE)) 8
  | 4 => .load8 (.mem .atHLInc) (.opnd (.reg .a)) 8
  | 5 => .load8 (.reg .a) (.opnd (.mem .atHLInc)) 8
  | 6 => .load8 (.mem .atHLDec) (.opnd (.reg .a)) 8
  | _ => .load8 (.reg .a) (.opnd (.mem .atHLDec)) 8

/-- The operations on A and the flags of x = 0, z = 7. -/
def accumulatorAction (y : BitVec 3) : Action :=
  match y.toNat with
  | 4 => .daaAcc 4
  | 5 => .cplAcc 4
  | 6 => .setCarry 4
  | 7 => .complementCarry 4
  | _ => .rotateAcc (ShiftOp.ofCode y) 4

/-- The base opcodes with x = 0 (rows 0x to 3x of R132). -/
def actionX0 (y z : BitVec 3) (lo hi : Byte) : Action :=
  let p := Reg16.ofCode (y.extractLsb' 1 2)
  let q := y.extractLsb' 0 1
  let o := Operand8.ofCode y
  match z.toNat with
  | 0 =>
    match y.toNat with
    | 0 => .complete 4
    | 1 => .storeSP (concat hi lo) 20
    | 2 => .enterStop 4
    | 3 => .jumpRelative .always lo 12 12
    | _ => .jumpRelative (Cond.ofCode (y.extractLsb' 0 2)) lo 12 8
  | 1 => if q = 0 then .load16 p (concat hi lo) 12 else .addHLReg16 p 8
  | 2 => indirectLoad y
  | 3 => if q = 0 then .incReg16 p 8 else .decReg16 p 8
  | 4 => .incOperand o (operandCycles 4 12 o)
  | 5 => .decOperand o (operandCycles 4 12 o)
  | 6 => .load8 o (.imm8 lo) (operandCycles 8 12 o)
  | _ => accumulatorAction y

/-- The loads between operands, x = 1 (rows 4x to 7x of R132), with HALT in the place of LD (HL),(HL). -/
def actionX1 (y z : BitVec 3) : Action :=
  if y = 6 ∧ z = 6 then .enterHalt 4
  else .load8 (Operand8.ofCode y) (.opnd (Operand8.ofCode z))
    (max (operandCycles 4 8 (Operand8.ofCode y)) (operandCycles 4 8 (Operand8.ofCode z)))

/-- The ALU operations on an operand, x = 2 (rows 8x to Bx of R132). -/
def actionX2 (y z : BitVec 3) : Action :=
  .alu (AluOp.ofCode y) (.opnd (Operand8.ofCode z)) (operandCycles 4 8 (Operand8.ofCode z))

/-- The base opcodes with x = 3 (rows Cx to Fx of R132), without the escape. -/
def actionX3 (op : Byte) (y z : BitVec 3) (lo hi : Byte) (s : State) : Action :=
  let k := Cond.ofCode (y.extractLsb' 0 2)
  let q := y.extractLsb' 0 1
  let r := StackReg.ofCode (y.extractLsb' 1 2)
  match z.toNat with
  | 0 =>
    match y.toNat with
    | 4 => .load8 (.mem (.atA8 lo)) (.opnd (.reg .a)) 12
    | 5 => .addSP lo 16
    | 6 => .load8 (.reg .a) (.opnd (.mem (.atA8 lo))) 12
    | 7 => .loadHLSP lo 12
    | _ => .ret k 20 8
  | 1 =>
    match y.toNat with
    | 1 => .ret .always 16 16
    | 3 => .retEnable 16
    | 5 => .jump .always s.hl 4 4
    | 7 => .load16 .sp s.hl 8
    | _ => .popReg r 12
  | 2 =>
    match y.toNat with
    | 4 => .load8 (.mem .atC) (.opnd (.reg .a)) 8
    | 5 => .load8 (.mem (.atA16 (concat hi lo))) (.opnd (.reg .a)) 16
    | 6 => .load8 (.reg .a) (.opnd (.mem .atC)) 8
    | 7 => .load8 (.reg .a) (.opnd (.mem (.atA16 (concat hi lo)))) 16
    | _ => .jump k (concat hi lo) 16 12
  | 3 =>
    match y.toNat with
    | 0 => .jump .always (concat hi lo) 16 16
    | 6 => .writeIme false 4
    | 7 => .writeIme true 4
    | _ => .raiseIllegalOpcode op
  | 4 => if y.toNat < 4 then .call k (concat hi lo) 24 12 else .raiseIllegalOpcode op
  | 5 =>
    if q = 0 then .pushReg r 16
    else if y = 1 then .call .always (concat hi lo) 24 24
    else .raiseIllegalOpcode op
  | 6 => .alu (AluOp.ofCode y) (.imm8 lo) 8
  | _ => .call .always (y.zeroExtend 16 * 8) 16 16

/-- The action of a base opcode other than the escape, by its fields. -/
def baseAction (op lo hi : Byte) (s : State) : Action :=
  let y := op.extractLsb' 3 3
  let z := op.extractLsb' 0 3
  match (op.extractLsb' 6 2).toNat with
  | 0 => actionX0 y z lo hi
  | 1 => actionX1 y z
  | 2 => actionX2 y z
  | _ => actionX3 op y z lo hi s

/-- The action of a prefixed opcode, by its fields (R129). -/
def prefixedAction (b : Byte) : Action :=
  let y := b.extractLsb' 3 3
  let o := Operand8.ofCode (b.extractLsb' 0 3)
  match (b.extractLsb' 6 2).toNat with
  | 0 => .shiftOperand (ShiftOp.ofCode y) o (modifyCycles o)
  | 1 => .bitTest y.toNat o (bitCycles o)
  | 2 => .bitClear y.toNat o (modifyCycles o)
  | _ => .bitSet y.toNat o (modifyCycles o)

/-! ### The maps, entry by entry -/

/-- A byte is the numeral of its value. -/
theorem byte_eq_ofNat (b : Byte) : ∃ n < 256, b = BitVec.ofNat 8 n := ⟨b.toNat, b.isLt, by simp⟩

/-- Each of the 256 entries of the prefixed map (R133) is the one that its fields name. -/
theorem exec_prefixedInstr_eq_prefixedEntry (b : Byte) (s : State) : exec (prefixedInstr b) s = prefixedEntry b s := by
  obtain ⟨n, hn, rfl⟩ := byte_eq_ofNat b
  interval_cases n <;> rfl

/-- Each of the 256 entries of the base map (R132) does the action of its fields; the escape is a prefixed entry. -/
theorem exec_baseInstr_cases (op lo hi : Byte) (s : State) :
    exec (baseInstr op lo hi) s = if op = 0xCB then prefixedEntry lo s else (baseAction op lo hi s).run s := by
  obtain ⟨n, hn, rfl⟩ := byte_eq_ofNat op
  interval_cases n <;> rfl

/-- A prefixed entry does the action of its fields (R129). -/
theorem prefixedEntry_eq_next (b : Byte) (s : State) : prefixedEntry b s = .next ((prefixedAction b).next s) := by
  rw [← Action.run_eq_next]
  unfold prefixedEntry prefixedAction
  dsimp only
  generalize (b.extractLsb' 6 2).toNat = x
  match x with
  | 0 | 1 | 2 | _ + 3 => rfl

theorem exec_prefixedInstr (b : Byte) (s : State) : exec (prefixedInstr b) s = .next ((prefixedAction b).next s) :=
  (exec_prefixedInstr_eq_prefixedEntry b s).trans (prefixedEntry_eq_next b s)

theorem exec_baseInstr_escape (lo hi : Byte) (s : State) :
    exec (baseInstr 0xCB lo hi) s = .next ((prefixedAction lo).next s) :=
  (exec_baseInstr_cases 0xCB lo hi s).trans (prefixedEntry_eq_next lo s)

theorem exec_baseInstr {op : Byte} (h : op ≠ 0xCB) (lo hi : Byte) (s : State) :
    exec (baseInstr op lo hi) s = .next ((baseAction op lo hi s).next s) := by
  rw [exec_baseInstr_cases, if_neg h, Action.run_eq_next]

/-! ### The tables of the statements, entry by entry -/

/-- The rows of the flag table (after R38) are the actions that write flags, and the escape. -/
theorem writesFlags_eq (op lo hi : Byte) (s : State) :
    writesFlags op = if op = 0xCB then true else (baseAction op lo hi s).writesFlags := by
  obtain ⟨n, hn, rfl⟩ := byte_eq_ofNat op
  interval_cases n <;> rfl

/-- The opcodes of R381 to R391 are the actions that write PC. -/
theorem writesPc_eq (op lo hi : Byte) (s : State) :
    writesPc op = if op = 0xCB then false else (baseAction op lo hi s).writesPc := by
  obtain ⟨n, hn, rfl⟩ := byte_eq_ofNat op
  interval_cases n <;> rfl

/-- The opcodes that R33 names are the actions that write SP. -/
theorem writesSp_eq (op lo hi : Byte) (s : State) :
    writesSp op = if op = 0xCB then false else (baseAction op lo hi s).writesSp := by
  obtain ⟨n, hn, rfl⟩ := byte_eq_ofNat op
  interval_cases n <;> rfl

/-- The addresses that an opcode's rule stores to are those of its action. -/
theorem storedTo_eq (op lo hi : Byte) (s : State) :
    storedTo op lo hi s = if op = 0xCB then prefixedStoredTo lo s else (baseAction op lo hi s).stored s := by
  obtain ⟨n, hn, rfl⟩ := byte_eq_ofNat op
  interval_cases n <;> rfl

/-- The writes to an operand of a 3-bit code: only code 6 is memory (R122). -/
theorem operandWrites_ofCode (z : BitVec 3) (s : State) (v : Byte) :
    (operandWrites (Operand8.ofCode z) (s.readOperand (Operand8.ofCode z)).2 v).map Prod.fst =
      if z = 6 then [s.hl] else [] := by
  have hz : z = 0 ∨ z = 1 ∨ z = 2 ∨ z = 3 ∨ z = 4 ∨ z = 5 ∨ z = 6 ∨ z = 7 := by
    revert z
    decide
  rcases hz with rfl | rfl | rfl | rfl | rfl | rfl | rfl | rfl <;> rfl

/-- The addresses that a prefixed opcode's rule stores to are those of its action. -/
theorem prefixedStoredTo_eq (b : Byte) (s : State) : prefixedStoredTo b s = (prefixedAction b).stored s := by
  have hx : b.extractLsb' 6 2 = 0 ∨ b.extractLsb' 6 2 = 1 ∨ b.extractLsb' 6 2 = 2 ∨ b.extractLsb' 6 2 = 3 := by
    generalize b.extractLsb' 6 2 = x
    revert x
    decide
  rcases hx with hx | hx | hx | hx <;>
    simp [prefixedStoredTo, prefixedAction, hx, Action.stored, Action.writes, operandWrites_ofCode]

/-! ### What an instruction of an opcode leaves unchanged -/

/-- The state after a prefixed instruction is that of its action. -/
theorem next_of_exec_prefixedInstr {b : Byte} {s t : State} (h : exec (prefixedInstr b) s = .next t) :
    (prefixedAction b).next s = t :=
  Host.Outcome.next.inj ((exec_prefixedInstr b s).symm.trans h)

/-- The state after a base instruction is that of its action, or of the prefixed action after the escape. -/
theorem next_of_exec_baseInstr {op lo hi : Byte} {s t : State} (h : exec (baseInstr op lo hi) s = .next t) :
    (op = 0xCB ∧ (prefixedAction lo).next s = t) ∨ (op ≠ 0xCB ∧ (baseAction op lo hi s).next s = t) := by
  by_cases hop : op = 0xCB
  · subst hop
    exact .inl ⟨rfl, Host.Outcome.next.inj ((exec_baseInstr_escape lo hi s).symm.trans h)⟩
  · exact .inr ⟨hop, Host.Outcome.next.inj ((exec_baseInstr hop lo hi s).symm.trans h)⟩

/-- Settles O25: an instruction's action leaves every ROM byte but those it stores to. -/
theorem memoryFrame : Obligations.MemoryFrame := by
  refine fun s t => ⟨fun op lo hi h => ?_, fun b h => ?_⟩
  · rw [storedTo_eq]
    rcases next_of_exec_baseInstr h with ⟨rfl, rfl⟩ | ⟨hop, rfl⟩
    · rw [if_pos rfl, prefixedStoredTo_eq]
      exact Action.next_memoryKept _ s
    · rw [if_neg hop]
      exact Action.next_memoryKept _ s
  · obtain rfl := next_of_exec_prefixedInstr h
    rw [prefixedStoredTo_eq]
    exact Action.next_memoryKept _ s

/-- No prefixed instruction writes PC or SP or a control bit. -/
theorem prefixedAction_writes (b : Byte) :
    (prefixedAction b).writesPc = false ∧ (prefixedAction b).writesSp = false ∧
      (prefixedAction b).writesControl = false := by
  unfold prefixedAction
  dsimp only
  split <;> exact ⟨rfl, rfl, rfl⟩

/-- RES and SET, the prefixed opcodes from 0x80 on, write no flag (R344, R345). -/
theorem prefixedAction_writesFlags {b : Byte} (h : 0x80 ≤ b.toNat) : (prefixedAction b).writesFlags = false := by
  have hx : (b.extractLsb' 6 2).toNat = b.toNat / 64 % 4 := by
    simp [BitVec.extractLsb'_toNat, Nat.shiftRight_eq_div_pow]
  have hlt := b.isLt
  unfold prefixedAction
  dsimp only
  split
  · omega
  · omega
  · rfl
  · rfl

/-- Settles O27: an opcode outside a table has an action that does not write. -/
theorem flagPcSpFrame : Obligations.FlagPcSpFrame := by
  refine ⟨fun op lo hi s t hw h => ?_, fun b s t hb h => ?_, fun op lo hi s t hw h => ?_, fun op lo hi s t hw h => ?_,
    fun b s t h => ?_⟩
  · rw [writesFlags_eq op lo hi s] at hw
    rcases next_of_exec_baseInstr h with ⟨rfl, -⟩ | ⟨hop, rfl⟩
    · cases hw
    · exact Action.next_f ((if_neg hop).symm.trans hw) s
  · obtain rfl := next_of_exec_prefixedInstr h
    exact Action.next_f (prefixedAction_writesFlags hb) s
  · rw [writesPc_eq op lo hi s] at hw
    rcases next_of_exec_baseInstr h with ⟨-, rfl⟩ | ⟨hop, rfl⟩
    · exact Action.next_pc (prefixedAction_writes lo).1 s
    · exact Action.next_pc ((if_neg hop).symm.trans hw) s
  · rw [writesSp_eq op lo hi s] at hw
    rcases next_of_exec_baseInstr h with ⟨-, rfl⟩ | ⟨hop, rfl⟩
    · exact Action.next_sp (prefixedAction_writes lo).2.1 s
    · exact Action.next_sp ((if_neg hop).symm.trans hw) s
  · obtain rfl := next_of_exec_prefixedInstr h
    obtain ⟨hpc, hsp, -⟩ := prefixedAction_writes b
    exact ⟨Action.next_pc hpc s, Action.next_sp hsp s⟩

/-! ### Which instructions write the control bits -/

/-- The instructions that write IME, a gate or the fault (R41 to R44). -/
def writesControl : Instr → Bool
  | .di | .ei | .reti | .halt | .stop | .illegal _ => true
  | _ => false

/-- An entry of the base map writes a control bit when its action does. -/
theorem baseInstr_writesControl (op lo hi : Byte) (s : State) :
    writesControl (baseInstr op lo hi) = if op = 0xCB then false else (baseAction op lo hi s).writesControl := by
  obtain ⟨n, hn, rfl⟩ := byte_eq_ofNat op
  interval_cases n <;> rfl

/-- The entry of the maps that the bytes of an encoding select. -/
def entryOf : List Byte → Instr
  | [] => .nop
  | op :: rest => if op = 0xCB then prefixedInstr (rest.getD 0 0) else baseInstr op (rest.getD 0 0) (rest.getD 1 0)

/-- Every well-formed instruction is the entry that its encoding selects; a word comes back from its two bytes. -/
theorem entryOf_encode (i : Instr) (h : i.wellFormed = true) : entryOf (encode .one i) = i := by
  cases i
  case ld_a_atA16 w | ld_atA16_a w | ld_bc_n16 w | ld_de_n16 w | ld_hl_n16 w | ld_sp_n16 w | ld_atA16_sp w | jp_n16 w
    | jp_nz_n16 w | jp_z_n16 w | jp_nc_n16 w | jp_c_n16 w | call_n16 w | call_nz_n16 w | call_z_n16 w | call_nc_n16 w
    | call_c_n16 w =>
    refine Eq.trans ?_ (congrArg _ (concat_hiByte_loByte w))
    rfl
  case prefix_cb b => cases h
  case illegal op =>
    have hm : op ∈ illegalOpcodes := of_decide_eq_true h
    simp only [illegalOpcodes, List.mem_cons, List.not_mem_nil, or_false] at hm
    rcases hm with rfl | rfl | rfl | rfl | rfl | rfl | rfl | rfl | rfl | rfl | rfl <;> rfl
  all_goals rfl

/-- Every instruction that is not an illegal marker is an entry of one of the two maps, or the escape. -/
theorem instr_cases (i : Instr) :
    (∃ op, i = .illegal op) ∨ (∃ b, i = .prefix_cb b) ∨ (∃ b, i = prefixedInstr b) ∨
      ∃ op lo hi, op ≠ 0xCB ∧ i = baseInstr op lo hi := by
  cases hw : i.wellFormed with
  | true =>
    have he := entryOf_encode i hw
    cases hb : encode .one i with
    | nil =>
      rw [hb] at he
      exact .inr (.inr (.inr ⟨0, 0, 0, by decide, he.symm⟩))
    | cons op rest =>
      rw [hb, entryOf] at he
      split at he
      · exact .inr (.inr (.inl ⟨_, he.symm⟩))
      · exact .inr (.inr (.inr ⟨op, _, _, by assumption, he.symm⟩))
  | false =>
    unfold Instr.wellFormed at hw
    split at hw
    · exact .inl ⟨_, rfl⟩
    · exact .inr (.inl ⟨_, rfl⟩)
    · cases hw

/-- An instruction that is no writer of the control bits leaves them alone. -/
theorem exec_control {i : Instr} (hi : writesControl i = false) {s t : State} (h : exec i s = .next t) :
    t.ime = s.ime ∧ t.halted = s.halted ∧ t.stopped = s.stopped ∧ t.fault = s.fault := by
  rcases instr_cases i with ⟨op, rfl⟩ | ⟨b, rfl⟩ | ⟨b, rfl⟩ | ⟨op, lo, hi', hop, rfl⟩
  · cases hi
  · obtain rfl : (prefixedAction b).next s = t := Host.Outcome.next.inj ((prefixedEntry_eq_next b s).symm.trans h)
    exact Action.next_control (prefixedAction_writes b).2.2 s
  · obtain rfl := next_of_exec_prefixedInstr h
    exact Action.next_control (prefixedAction_writes b).2.2 s
  · rw [baseInstr_writesControl op lo hi' s, if_neg hop] at hi
    obtain rfl := Host.Outcome.next.inj ((exec_baseInstr hop lo hi' s).symm.trans h)
    exact Action.next_control hi s

/-- Settles O22: the six writers one by one, and no other instruction writes a control bit. -/
theorem controlBitWriters : Obligations.ControlBitWriters := by
  intro i s t h
  cases hw : writesControl i with
  | true =>
    unfold writesControl at hw
    split at hw
    case h_7 => cases hw
    all_goals
      obtain rfl := Host.Outcome.next.inj h
      simp
  | false =>
    obtain ⟨eime, ehalted, estopped, efault⟩ := exec_control hw h
    have hne (j : Instr) (hj : writesControl j = true) : i ≠ j := by
      rintro rfl
      simp [hj] at hw
    simp [eime, ehalted, estopped, efault, hne .di rfl, hne .ei rfl, hne .reti rfl, hne .halt rfl, hne .stop rfl,
      fun op => hne (.illegal op) rfl]

end Sys2Proof.Proofs
end

section
/-! SUPPORT. The bus (20_memory.md, R71 to R75): what one read and one write do in each window, and the mux. -/

namespace Sys2Proof.Proofs

open Sys2Proof.Machine Sys2Proof.Laws Sys2Proof.Claims

theorem isRom_iff (x : Word) : isRom x = true ↔ x.toNat ≤ 0x7FFF := decide_eq_true_iff

theorem isRom_eq_false_iff (x : Word) : isRom x = false ↔ 0x8000 ≤ x.toNat := by
  rw [← Bool.not_eq_true, isRom_iff]
  omega

theorem isRom_of_le {x : Word} (h : x.toNat ≤ 0x7FFF) : isRom x = true := (isRom_iff x).mpr h

theorem isRom_of_ge {x : Word} (h : 0x8000 ≤ x.toNat) : isRom x = false := (isRom_eq_false_iff x).mpr h

/-! ### The mux (R71, R72) -/

theorem romOffset_low {s : State} {x : Word} (h : x.toNat ≤ 0x3FFF) : s.romOffset x = x.toNat := if_pos h

theorem romOffset_high {s : State} {x : Word} (h : 0x4000 ≤ x.toNat) :
    s.romOffset x = s.currentIndex * 16384 + (x.toNat - 0x4000) :=
  if_neg (by omega)

/-- With one bank the bank index is 0 (R64, R76). -/
theorem currentIndex_of_one_bank {s : State} (h : s.BankOk) (h1 : s.bankCount = 1) : s.currentIndex = 0 := by
  obtain ⟨-, hi⟩ := h
  simpa [h1] using hi

/-- The address in the switchable window that lies as far in as one of bank 0. -/
theorem toNat_add_window {x : Word} (h : x.toNat ≤ 0x3FFF) : (x + 0x4000).toNat = x.toNat + 0x4000 := by bv_omega

/-- With one bank the two windows show the same bytes (R72). -/
theorem romOffset_alias {s : State} (h : s.BankOk) (h1 : s.bankCount = 1) {x : Word} (hx : x.toNat ≤ 0x3FFF) :
    s.romOffset (x + 0x4000) = s.romOffset x := by
  have hadd := toNat_add_window hx
  rw [romOffset_low hx, romOffset_high (by omega), currentIndex_of_one_bank h h1]
  omega

/-- Settles O29: each window by its branch of the mux; with the index 0 the windows have the same offsets. -/
theorem bankedMux : Obligations.BankedMux := by
  refine ⟨fun s x hx => ?_, fun s x hlow hhigh => ?_, fun s x hx => memByte_ext s x (isRom_of_ge hx),
    fun s x hb h1 hx => ?_, fun s x hb hx => romOffset_lt hb x (isRom_of_le hx)⟩
  · rw [memByte_rom s x (isRom_of_le (by omega)), romOffset_low hx]
  · rw [memByte_rom s x (isRom_of_le hhigh), romOffset_high hlow]
  · have hsum : isRom (x + 0x4000) = true := isRom_of_le (by rw [toNat_add_window hx]; omega)
    rw [memByte_rom s _ hsum, memByte_rom s x (isRom_of_le (by omega)), romOffset_alias hb h1 hx]

/-! ### External accesses, and ROM writes under IGNORE (R73 to R75) -/

/-- An external write is its transaction and nothing else (R74). -/
theorem memWrite_external {x : Word} (h : isRom x = false) (s : State) (v : Byte) :
    s.memWrite x v = { s with bus := .write x v :: s.bus } := by
  simp [State.memWrite, h]

/-- A ROM write under IGNORE is nothing at all (R75). -/
theorem memWrite_ignore {s : State} (hp : s.romWritePolicy = .ignore) {x : Word} (h : isRom x = true) (v : Byte) :
    s.memWrite x v = s := by
  simp [State.memWrite, h, hp]

/-- An external read returns the next answer of the collaborator and uses it (R73). -/
theorem memRead_external {x : Word} (h : isRom x = false) (s : State) (v : Byte) :
    ({ s with extIn := v :: s.extIn }).memRead x = (v, { s with bus := .read x v :: s.bus }) := by
  simp [State.memRead, State.afterRead, State.memByte, State.extByte, h]

/-- Settles O31: the external branch of a read and of a write, and the IGNORE branch of a ROM write. -/
theorem externalAccesses : Obligations.ExternalAccesses :=
  ⟨fun s _ v hx => memRead_external (isRom_of_ge hx) s v, fun s _ v hx => memWrite_external (isRom_of_ge hx) s v,
    fun _ _ v hx hp => memWrite_ignore hp (isRom_of_le hx) v⟩

/-! ### ROM writes under STORE (R75) -/

/-- A byte stored in a ROM window is seen at every address that shows it. -/
theorem memByte_memWrite_same {s : State} (hwf : Memory.wf s.rom = true) (hp : s.romWritePolicy = .store) {x y : Word}
    (hx : isRom x = true) (hy : isRom y = true) (h : s.romOffset y = s.romOffset x) (v : Byte) :
    (s.memWrite x v).memByte y = v := by
  have hi : (s.memWrite x v).currentIndex = s.currentIndex := by simp
  rw [memByte_rom _ y hy, romOffset_congr hi, h, memWrite_rom, if_pos ⟨hx, hp⟩]
  exact read_write_same _ _ _ 0 hwf

/-- A write leaves the byte at every ROM address that shows another one. -/
theorem memByte_memWrite_other (s : State) {x y : Word} (hy : isRom y = true) (h : s.romOffset y ≠ s.romOffset x)
    (v : Byte) : (s.memWrite x v).memByte y = s.memByte y :=
  memoryKept_memWrite s x v y hy fun _ hw _ => List.mem_singleton.mp hw ▸ h.symm

theorem memWrite_wf {s : State} (hwf : Memory.wf s.rom = true) (x : Word) (v : Byte) :
    Memory.wf (s.memWrite x v).rom = true := by
  rw [memWrite_rom]
  split
  · exact wf_write _ _ _ hwf
  · exact hwf

/-- A fetch of a ROM byte sees what a data read at PC sees (R100, R103). -/
theorem fetch8_rom {s : State} {y : Word} (hy : isRom y = true) : ({ s with pc := y }).fetch8.1 = s.memByte y :=
  memByte_congr rfl rfl y hy

/-- Settles O30: a write to the ROM list is read back at its own offset and at no other. -/
theorem storeSetsTheByte : Obligations.StoreSetsTheByte := by
  intro s x y v hwf hp hx hy
  refine ⟨fun h => ?_, fun h => memByte_memWrite_other s hy h v, ?_, memWrite_wf hwf x v⟩
  · have hread := memByte_memWrite_same hwf hp hx hy h v
    exact ⟨hread, (fetch8_rom hy).trans hread⟩
  · simp [memWrite_bus, hp]

/-! ### The stack in ROM (R96, R97) -/

/-- Neighbouring ROM addresses show different bytes, at the border of the two windows too. -/
theorem romOffset_pred_ne (s : State) {x : Word} (hx : isRom x = true) (hx' : isRom (x - 1) = true) :
    s.romOffset (x - 1) ≠ s.romOffset x := by
  rw [isRom_iff] at hx hx'
  have hsub : (x - 1).toNat + 1 = x.toNat := by bv_omega
  unfold State.romOffset
  split <;> split <;> omega

theorem push16_memByte_low {s : State} (hwf : Memory.wf s.rom = true) (hp : s.romWritePolicy = .store)
    (hlow : isRom (s.sp - 1 - 1) = true) (v : Word) : (s.push16 v).memByte (s.sp - 1 - 1) = loByte v := by
  rw [push16_eq]
  exact memByte_memWrite_same (memWrite_wf hwf _ _) (by simpa using hp) hlow hlow rfl _

theorem push16_memByte_high {s : State} (hwf : Memory.wf s.rom = true) (hp : s.romWritePolicy = .store)
    (hhigh : isRom (s.sp - 1) = true) (hlow : isRom (s.sp - 1 - 1) = true) (v : Word) :
    (s.push16 v).memByte (s.sp - 1) = hiByte v := by
  rw [push16_eq]
  have hi : (s.memWrite (s.sp - 1) (hiByte v)).currentIndex = s.currentIndex := by simp
  have hne : (s.memWrite (s.sp - 1) (hiByte v)).romOffset (s.sp - 1) ≠
      (s.memWrite (s.sp - 1) (hiByte v)).romOffset (s.sp - 1 - 1) := by
    rw [romOffset_congr hi, romOffset_congr hi]
    exact (romOffset_pred_ne s hhigh hlow).symm
  exact (memByte_memWrite_other _ hhigh hne _).trans (memByte_memWrite_same hwf hp hhigh hhigh rfl _)

/-- Where both stack bytes are ROM, a pop reads them at SP and SP+1 (R97). -/
theorem pop16_fst_rom (s : State) (h : isRom (s.sp + 1) = true) :
    s.pop16.1 = concat (s.memByte (s.sp + 1)) (s.memByte s.sp) := by
  simp only [pop16_fst, memByte_rom _ _ h]
  rfl

/-- Settles O32: the two bytes of a push lie at different ROM offsets, and the pop reads both. -/
theorem popAfterPush : Obligations.PopAfterPush := by
  intro s v hwf hp hhigh hlow
  have hsp2 : s.sp - 2 = s.sp - 1 - 1 := by bv_omega
  have hsp1 : s.sp - 1 - 1 + 1 = s.sp - 1 := by bv_omega
  have hsp0 : s.sp - 1 + 1 = s.sp := by bv_omega
  rw [hsp2] at hlow
  refine ⟨?_, by rw [State.pop16_sp_set, State.push16_sp_set, hsp1, hsp0], State.pop16_rom _⟩
  rw [pop16_fst_rom _ (by rwa [State.push16_sp_set, hsp1]), State.push16_sp_set, hsp1,
    push16_memByte_high hwf hp hhigh hlow, push16_memByte_low hwf hp hlow, concat_hiByte_loByte]

end Sys2Proof.Proofs
end

section
/-! SUPPORT. The validation of a ROM image (20_memory.md, R80 to R91), check by check. -/

namespace Sys2Proof.Proofs

open Sys2Proof.Machine Sys2Proof.Laws

/-! ### The checks read no byte after the header -/

theorem imageByte_take (image : List Byte) {i n : Nat} (h : i < n) :
    imageByte (image.take n) i = imageByte image i := by
  simp [imageByte, List.getD_eq_getElem?_getD, h]

theorem drop_take_within {α : Type} (xs : List α) {i k n : Nat} (h : i + k ≤ n) :
    ((xs.take n).drop i).take k = (xs.drop i).take k := by
  rw [List.drop_take, List.take_take, Nat.min_eq_left (by omega)]

theorem licenseeOf_take (image : List Byte) : licenseeOf (image.take 0x150) = licenseeOf image := by
  simp [licenseeOf, imageByte_take]

/-- The checks and the header depend on an image's length and its first 0x150 bytes alone. -/
theorem validateRom_eq (p : Params) (image : List Byte) :
    validateRom p image = validateHeader p image.length image := by
  simp [validateRom, validateHeader, licenseeOf_take, imageByte_take, drop_take_within]

/-! ### The size and the alignment (R81, R82) -/

theorem validateRom_of_short (p : Params) {image : List Byte} (h : image.length < 0x150) :
    validateRom p image = .error .romTooSmall := if_pos h

theorem validateRom_of_misaligned (p : Params) {image : List Byte} (h : 0x150 ≤ image.length)
    (hmod : image.length % 16384 ≠ 0) : validateRom p image = .error .misalignedRomSize :=
  (if_neg (Nat.not_lt.mpr h)).trans (if_pos hmod)

/-- A construction fails as the validation does (R80). -/
theorem construct_of_error {p : Params} {image : List Byte} {err : ConstructError}
    (h : validateRom p image = .error err) : construct p image = .error err := by
  rw [construct, h]

/-- Settles O26: the first two checks of the validation. -/
theorem sizeChecks : Obligations.SizeChecks := by
  refine fun p image => ⟨fun h => ?_, fun h hmod => ?_⟩
  · have hv := validateRom_of_short p h
    exact ⟨hv, construct_of_error hv⟩
  · have hv := validateRom_of_misaligned p h hmod
    exact ⟨hv, construct_of_error hv⟩

/-! ### The code tables (R89, R90) -/

/-- The known ROM-size codes (R89). -/
def RomSizeKnown (k : Byte) : Prop := k.toNat ≤ 0x08 ∨ k = 0x52 ∨ k = 0x53 ∨ k = 0x54

/-- The known RAM-size codes (R90). -/
def RamSizeKnown (k : Byte) : Prop := k = 0x00 ∨ k = 0x02 ∨ k = 0x03 ∨ k = 0x04 ∨ k = 0x05

theorem romBanksOf_unknown {k : Byte} (h : ¬ RomSizeKnown k) : romBanksOf k = none := by
  obtain ⟨hle, h52, h53, h54⟩ : ¬ k.toNat ≤ 0x08 ∧ k ≠ 0x52 ∧ k ≠ 0x53 ∧ k ≠ 0x54 := by
    simpa [RomSizeKnown, not_or] using h
  rw [romBanksOf, if_neg hle, if_neg h52, if_neg h53, if_neg h54]

theorem romBanksOf_known {k : Byte} (h : RomSizeKnown k) :
    romBanksOf k =
      some (if k = 0x52 then 72 else if k = 0x53 then 80 else if k = 0x54 then 96 else 2 ^ (k.toNat + 1)) := by
  rcases h with h | rfl | rfl | rfl
  · have hne (m : Byte) (hm : 0x08 < m.toNat) : k ≠ m := fun he => by
      rw [he] at h
      omega
    rw [romBanksOf, if_pos h, if_neg (hne 0x52 (by decide)), if_neg (hne 0x53 (by decide)),
      if_neg (hne 0x54 (by decide))]
  · rfl
  · rfl
  · rfl

theorem ramBanksOf_unknown {k : Byte} (h : ¬ RamSizeKnown k) : ramBanksOf k = none := by
  obtain ⟨h0, h2, h3, h4, h5⟩ : k ≠ 0x00 ∧ k ≠ 0x02 ∧ k ≠ 0x03 ∧ k ≠ 0x04 ∧ k ≠ 0x05 := by
    simpa [RamSizeKnown, not_or] using h
  rw [ramBanksOf, if_neg h0, if_neg h2, if_neg h3, if_neg h4, if_neg h5]

theorem ramBanksOf_known {k : Byte} (h : RamSizeKnown k) :
    ramBanksOf k =
      some (if k = 0x00 then 0 else if k = 0x02 then 1 else if k = 0x03 then 4 else if k = 0x04 then 16 else 8) := by
  rcases h with rfl | rfl | rfl | rfl | rfl <;> rfl

/-! ### The licensee code (R85) -/

theorem licenseeOf_old {image : List Byte} (h : imageByte image 0x14B ≠ 0x33) :
    licenseeOf image = (imageByte image 0x148).toNat := if_neg h

theorem digit_toNat {x : Nat} (h : x < 10) : (BitVec.ofNat 8 (0x30 + x)).toNat = 0x30 + x := by
  rw [BitVec.toNat_ofNat]
  omega

theorem isDigit_ofNat {x : Nat} (h : x < 10) : isDigit (BitVec.ofNat 8 (0x30 + x)) = true := by
  simp only [isDigit, digit_toNat h, Bool.and_eq_true, decide_eq_true_eq]
  omega

/-- Two ASCII digits of the new scheme are a decimal number. -/
theorem licenseeOf_digits {image : List Byte} {x y : Nat} (hx : x < 10) (hy : y < 10)
    (h : imageByte image 0x14B = 0x33) (htens : imageByte image 0x144 = BitVec.ofNat 8 (0x30 + x))
    (hunits : imageByte image 0x145 = BitVec.ofNat 8 (0x30 + y)) : licenseeOf image = 10 * x + y := by
  simp only [licenseeOf, h, htens, hunits, isDigit_ofNat hx, isDigit_ofNat hy, digit_toNat hx, digit_toNat hy,
    Bool.and_self, if_true]
  omega

/-- Settles O3: the checks one after the other, then the fields of the header. -/
theorem validationOrder : Obligations.ValidationOrder := by
  intro p image
  dsimp only
  split
  case isTrue hshort => exact validateRom_of_short p hshort
  case isFalse hshort =>
  split
  case isTrue hmod => exact validateRom_of_misaligned p (Nat.not_lt.mp hshort) hmod
  case isFalse hmod =>
  rw [validateRom_eq, validateHeader, if_neg hshort, if_neg hmod]
  split
  case isTrue => rfl
  case isFalse =>
  split
  case isTrue => rfl
  case isFalse =>
  split
  case isTrue hrom => rw [romBanksOf_unknown hrom]
  case isFalse hrom =>
  rw [romBanksOf_known (not_not.mp hrom)]
  split
  case isTrue hram => rw [ramBanksOf_unknown hram]
  case isFalse hram =>
  rw [ramBanksOf_known (not_not.mp hram)]
  exact ⟨_, rfl, rfl, rfl, rfl, rfl, licenseeOf_old, fun _ _ => licenseeOf_digits, by simp, by simp⟩

end Sys2Proof.Proofs
end

section
/-! SUPPORT. What no step changes, and the bus transactions of an action: its reads, then its writes. -/

namespace Sys2Proof.Proofs

open Sys2Proof.Machine Sys2Proof.Laws Sys2Proof.Claims

/-! ### The parameters, the bank index, and the ROM under IGNORE -/

@[simp] theorem Action.next_romWritePolicy (a : Action) (s : State) :
    (a.next s).romWritePolicy = s.romWritePolicy := by
  cases a
  case jump k _ _ _ | jumpRelative k _ _ _ | call k _ _ _ | ret k _ _ =>
    cases hk : s.cond k <;> simp [Action.next, hk]
  all_goals simp [Action.next]

@[simp] theorem Action.next_stopLength (a : Action) (s : State) : (a.next s).stopLength = s.stopLength := by
  cases a
  case jump k _ _ _ | jumpRelative k _ _ _ | call k _ _ _ | ret k _ _ =>
    cases hk : s.cond k <;> simp [Action.next, hk]
  all_goals simp [Action.next]

/-- Under IGNORE no write changes the ROM array (R75). -/
theorem writeAll_rom_ignore {s : State} (h : s.romWritePolicy = .ignore) (ws : List (Word × Byte)) :
    (writeAll s ws).rom = s.rom := by
  induction ws generalizing s with
  | nil => rfl
  | cons w rest ih =>
    have hfirst : (s.memWrite w.1 w.2).rom = s.rom := by simp [memWrite_rom, h]
    exact (ih (by simpa using h)).trans hfirst

theorem Action.next_rom_ignore (a : Action) {s : State} (h : s.romWritePolicy = .ignore) : (a.next s).rom = s.rom :=
  (a.next_rom s).trans (writeAll_rom_ignore h (a.writes s))

/-- A step is a report of the state after the environment's event, or one action after the fetch. -/
theorem step_next {s t : State} (h : step s = .next t) :
    (∃ st n, t = s.takeWake.report st n) ∨ ∃ a : Action, t = a.next s.takeWake.fetchInstr.2 := by
  rcases step_cases h with ⟨st, n, ht, -⟩ | ⟨-, hexec⟩
  · exact .inl ⟨st, n, ht⟩
  · obtain ⟨a, ha⟩ := exec_eq_next s.takeWake.fetchInstr.1 s.takeWake.fetchInstr.2
    exact .inr ⟨a, Host.Outcome.next.inj (hexec.symm.trans ha)⟩

/-- Settles O21: neither the environment's event nor a fetch, a report or an action writes any of these. -/
theorem whatNoStepChanges : Obligations.WhatNoStepChanges := by
  refine ⟨fun s t h => ?_, fun s t hp h => ?_⟩
  · rcases step_next h with ⟨st, n, rfl⟩ | ⟨a, rfl⟩ <;> simp
  · rcases step_next h with ⟨st, n, rfl⟩ | ⟨a, rfl⟩
    · simp
    · rw [a.next_rom_ignore (by simpa using hp)]
      simp

/-! ### Bus traffic -/

/-- The way from `s` to `t` makes at most `n` transactions, writes to `stored` and takes the answers of its external
reads: `Claims.BusKept` with a bound of its own. It keeps the write policy, so that two ways can be joined. -/
def Traffic (n : Nat) (stored : List Word) (s t : State) : Prop :=
  t.romWritePolicy = s.romWritePolicy ∧ ∃ events : List BusTxn, t.bus = events ++ s.bus ∧ events.length ≤ n ∧
    events.reverse.filterMap writeAddr = stored.filter (fun w => !(isRom w && s.romWritePolicy == .ignore)) ∧
    t.extIn = s.extIn.drop (events.countP isExternalRead)

theorem Traffic.busKept {stored : List Word} {s t : State} (h : Traffic 2 stored s t) : BusKept stored s t := h.2

theorem Traffic.mono {m n : Nat} {stored : List Word} {s t : State} (h : Traffic m stored s t) (hmn : m ≤ n) :
    Traffic n stored s t := by
  obtain ⟨hp, events, hbus, hlen, hwrites, hext⟩ := h
  exact ⟨hp, events, hbus, hlen.trans hmn, hwrites, hext⟩

/-- Two ways, one after the other. -/
theorem Traffic.append {m n : Nat} {xs ys : List Word} {s t u : State} (h₁ : Traffic m xs s t)
    (h₂ : Traffic n ys t u) : Traffic (m + n) (xs ++ ys) s u := by
  obtain ⟨hp₁, events₁, hbus₁, hlen₁, hwrites₁, hext₁⟩ := h₁
  obtain ⟨hp₂, events₂, hbus₂, hlen₂, hwrites₂, hext₂⟩ := h₂
  refine ⟨hp₂.trans hp₁, events₂ ++ events₁, ?_, ?_, ?_, ?_⟩
  · rw [hbus₂, hbus₁, List.append_assoc]
  · rw [List.length_append]
    omega
  · rw [List.reverse_append, List.filterMap_append, List.filter_append, hwrites₁, hwrites₂, hp₁]
  · rw [hext₂, hext₁, List.drop_drop, List.countP_append, Nat.add_comm]

/-- What writes neither the record, the answers nor the policy makes no traffic. -/
theorem Traffic.of_unchanged {n : Nat} {s t : State} (hbus : t.bus = s.bus) (hext : t.extIn = s.extIn)
    (hp : t.romWritePolicy = s.romWritePolicy) : Traffic n [] s t :=
  ⟨hp, [], hbus, Nat.zero_le n, rfl, hext⟩

/-- Traffic followed by what makes none. -/
theorem Traffic.then_unchanged {n : Nat} {stored : List Word} {s t u : State} (h : Traffic n stored s t)
    (hbus : u.bus = t.bus) (hext : u.extIn = t.extIn) (hp : u.romWritePolicy = t.romWritePolicy) :
    Traffic n stored s u := by
  simpa using h.append (Traffic.of_unchanged (n := 0) hbus hext hp)

/-- A read is one transaction (R73). -/
theorem traffic_afterRead (s : State) (x : Word) : Traffic 1 [] s (s.afterRead x) := by
  refine ⟨rfl, [.read x (s.memByte x)], rfl, Nat.le_refl 1, rfl, ?_⟩
  cases h : isRom x <;> simp [State.afterRead, isExternalRead, h]

/-- A write is one transaction, or none for a ROM window under IGNORE (R74, R75). -/
theorem traffic_memWrite (s : State) (x : Word) (v : Byte) : Traffic 1 [x] s (s.memWrite x v) := by
  refine ⟨by simp, ?_⟩
  by_cases h : isRom x = true ∧ s.romWritePolicy = .ignore
  · exact ⟨[], by simp [memWrite_bus, h], by simp, by simp [h], by simp⟩
  · have hkept : isRom x = false ∨ ¬ s.romWritePolicy = .ignore :=
      (not_and_or.mp h).imp_left Bool.eq_false_of_not_eq_true
    exact ⟨[.write x v], by simp [memWrite_bus, h], Nat.le_refl 1, by simp [hkept, writeAddr],
      by simp [isExternalRead]⟩

/-! ### Operands and the stack -/

theorem traffic_readOperand (s : State) (o : Operand8) : Traffic 1 [] s (s.readOperand o).2 := by
  cases o with
  | reg r => exact Traffic.of_unchanged rfl rfl rfl
  | mem m =>
    exact (traffic_afterRead s (s.ea m)).then_unchanged (State.postModify_bus _ m) (State.postModify_extIn _ m)
      (State.postModify_romWritePolicy _ m)

theorem traffic_readSource (s : State) (src : Source8) : Traffic 1 [] s (s.readSource src).2 := by
  cases src with
  | opnd o => exact traffic_readOperand s o
  | imm8 n => exact Traffic.of_unchanged rfl rfl rfl

theorem traffic_writeOperand (s : State) (o : Operand8) (v : Byte) :
    Traffic 1 ((operandWrites o s v).map Prod.fst) s (s.writeOperand o v) := by
  cases o with
  | reg r =>
    exact Traffic.of_unchanged (State.setReg8_bus s r v) (State.setReg8_extIn s r v)
      (State.setReg8_romWritePolicy s r v)
  | mem m =>
    exact (traffic_memWrite s (s.ea m) v).then_unchanged (State.postModify_bus _ m) (State.postModify_extIn _ m)
      (State.postModify_romWritePolicy _ m)

/-- Reading an operand, then writing it: one read at most, then one write at most (R334). -/
theorem traffic_modifyOperand (s : State) (o : Operand8) (v : Byte) :
    Traffic 2 ((operandWrites o (s.readOperand o).2 v).map Prod.fst) s ((s.readOperand o).2.writeOperand o v) :=
  (traffic_readOperand s o).append (traffic_writeOperand _ o v)

theorem traffic_push16 (s : State) (v : Word) : Traffic 2 [s.sp - 1, s.sp - 2] s (s.push16 v) := by
  have h : s.sp - 1 - 1 = s.sp - 2 := by rw [BitVec.sub_sub]; rfl
  rw [push16_eq, h]
  exact ((traffic_memWrite s _ _).append (traffic_memWrite _ _ _)).then_unchanged rfl rfl rfl

theorem traffic_pop16 (s : State) : Traffic 2 [] s s.pop16.2 :=
  ((traffic_afterRead s s.sp).then_unchanged (u := { s.afterRead s.sp with sp := s.sp + 1 }) rfl rfl rfl).append
    ((traffic_afterRead _ (s.sp + 1)).then_unchanged rfl rfl rfl)

/-! ### Actions and instructions -/

/-- An action makes at most two transactions, and writes to the addresses that it stores to. -/
theorem Action.next_traffic (a : Action) (s : State) : Traffic 2 (a.stored s) s (a.next s) := by
  cases a
  case load8 => exact ((traffic_readSource s _).append (traffic_writeOperand _ _ _)).then_unchanged rfl rfl rfl
  case storeSP => exact ((traffic_memWrite s _ _).append (traffic_memWrite _ _ _)).then_unchanged rfl rfl rfl
  case pushReg => exact (traffic_push16 s _).then_unchanged rfl rfl rfl
  case popReg =>
    exact (traffic_pop16 s).then_unchanged (by simp [Action.next]) (by simp [Action.next]) (by simp [Action.next])
  case alu => exact ((traffic_readSource s _).mono (Nat.le_succ 1)).then_unchanged rfl rfl rfl
  case bitTest => exact ((traffic_readOperand s _).mono (Nat.le_succ 1)).then_unchanged rfl rfl rfl
  case incOperand | decOperand | shiftOperand | bitClear | bitSet =>
    exact (traffic_modifyOperand s _ _).then_unchanged rfl rfl rfl
  case retEnable => exact (traffic_pop16 s).then_unchanged rfl rfl rfl
  case call k _ _ _ =>
    cases h : s.cond k <;> simp only [Action.next, Action.stored, h, if_true, Bool.false_eq_true, if_false]
    · exact Traffic.of_unchanged rfl rfl rfl
    · exact (traffic_push16 s s.pc).then_unchanged rfl rfl rfl
  case ret k _ _ =>
    cases h : s.cond k <;> simp only [Action.next, h, if_true, Bool.false_eq_true, if_false]
    · exact Traffic.of_unchanged rfl rfl rfl
    · exact (traffic_pop16 s).then_unchanged rfl rfl rfl
  case jump k _ _ _ | jumpRelative k _ _ _ =>
    cases h : s.cond k <;> simp only [Action.next, h, if_true, Bool.false_eq_true, if_false]
    all_goals exact Traffic.of_unchanged rfl rfl rfl
  all_goals exact Traffic.of_unchanged (by simp [Action.next]) (by simp [Action.next]) (by simp [Action.next])

/-- A base instruction answers the state of an action that stores to the addresses of the opcode's rule. -/
theorem exists_action_of_baseInstr {op lo hi : Byte} {s t : State} (h : exec (baseInstr op lo hi) s = .next t) :
    ∃ a : Action, a.stored s = storedTo op lo hi s ∧ a.next s = t := by
  rw [storedTo_eq]
  rcases next_of_exec_baseInstr h with ⟨rfl, ht⟩ | ⟨hop, ht⟩
  · exact ⟨prefixedAction lo, by rw [if_pos rfl, prefixedStoredTo_eq], ht⟩
  · exact ⟨baseAction op lo hi s, (if_neg hop).symm, ht⟩

/-- Settles O24: an instruction's traffic is that of its action. -/
theorem busFrame : Obligations.BusFrame := by
  refine fun s t => ⟨fun op lo hi h => ?_, fun b h => ?_⟩
  · obtain ⟨a, ha, rfl⟩ := exists_action_of_baseInstr h
    exact ha ▸ (a.next_traffic s).busKept
  · obtain rfl := next_of_exec_prefixedInstr h
    rw [prefixedStoredTo_eq]
    exact (Action.next_traffic _ s).busKept

end Sys2Proof.Proofs
end

section
/-! SUPPORT. The decoder and the encoder (30_encoding.md, R120 to R136): what decodes is the entry of the opcode maps that as
many bytes select as the opcode's format has, and the encoder writes these bytes back. -/

namespace Sys2Proof.Proofs

open Sys2Proof.Machine Sys2Proof.Laws Sys2Proof.Claims

/-! ### The decoder -/

/-- The first byte alone tells whether an instruction is prefixed (R120). -/
theorem instrFormat_eq_prefixed_iff (p : StopLength) (op : Byte) : instrFormat p op = .prefixed ↔ op = 0xCB := by
  unfold instrFormat
  constructor
  · intro h
    split_ifs at h with hcb
    · exact hcb
    · cases p <;> cases h
  · exact fun h => if_pos h

theorem entryOf_prefixed (args : List Byte) : entryOf (0xCB :: args) = prefixedInstr (args.getD 0 0) := rfl

theorem entryOf_base {op : Byte} (h : op ≠ 0xCB) (args : List Byte) :
    entryOf (op :: args) = baseInstr op (args.getD 0 0) (args.getD 1 0) := if_neg h

theorem entryOf_of_format {p : StopLength} {op : Byte} {f : Format} (hf : instrFormat p op = f) (hne : f ≠ .prefixed)
    (args : List Byte) : entryOf (op :: args) = baseInstr op (args.getD 0 0) (args.getD 1 0) :=
  entryOf_base (fun hop => hne (hf.symm.trans ((instrFormat_eq_prefixed_iff p op).mpr hop))) args

/-- What decodes is the entry that as many bytes select as the opcode's format has; the other bytes are left. -/
theorem decode_eq_ok_iff {p : StopLength} {bytes rest : List Byte} {i : Instr} :
    decode p bytes = .ok (i, rest) ↔
      ∃ op args, bytes = op :: args ++ rest ∧ args.length + 1 = (instrFormat p op).length ∧ entryOf (op :: args) = i := by
  constructor
  · intro h
    cases bytes with
    | nil => cases h
    | cons op tail =>
      unfold decode at h
      dsimp only at h
      split at h <;> cases h
      next hf => exact ⟨op, [], rfl, by rw [hf]; rfl, entryOf_of_format hf nofun _⟩
      next n hf => exact ⟨op, [n], rfl, by rw [hf]; rfl, entryOf_of_format hf nofun _⟩
      next lo hi hf => exact ⟨op, [lo, hi], rfl, by rw [hf]; rfl, entryOf_of_format hf nofun _⟩
      next b hf =>
        obtain rfl := (instrFormat_eq_prefixed_iff p op).mp hf
        exact ⟨0xCB, [b], rfl, rfl, rfl⟩
  · rintro ⟨op, args, rfl, hlen, rfl⟩
    cases hf : instrFormat p op <;> rw [hf] at hlen
    case op =>
      obtain rfl := List.length_eq_zero_iff.mp (Nat.succ.inj hlen)
      simp [decode, hf, entryOf_of_format hf nofun]
    case opImm8 =>
      obtain ⟨n, rfl⟩ := List.length_eq_one_iff.mp (Nat.succ.inj hlen)
      simp [decode, hf, entryOf_of_format hf nofun]
    case opImm16 =>
      obtain ⟨lo, hi, rfl⟩ := List.length_eq_two.mp (Nat.succ.inj hlen)
      simp [decode, hf, entryOf_of_format hf nofun]
    case prefixed =>
      obtain ⟨b, rfl⟩ := List.length_eq_one_iff.mp (Nat.succ.inj hlen)
      obtain rfl := (instrFormat_eq_prefixed_iff p op).mp hf
      rfl

/-! ### The encoder -/

/-- The bytes after an opcode that has the immediate byte `n` or word `w`, by its format (R120, R125). -/
def formatArgs (n : Byte) (w : Word) : Format → List Byte
  | .op => []
  | .opImm16 => [loByte w, hiByte w]
  | .opImm8 | .prefixed => [n]

theorem formatArgs_length (n : Byte) (w : Word) (f : Format) : (formatArgs n w f).length + 1 = f.length := by
  cases f <;> rfl

/-- The bytes after an opcode are the ones that its immediates are read from. -/
theorem formatArgs_getD {args : List Byte} {f : Format} (h : args.length + 1 = f.length) :
    formatArgs (args.getD 0 0) (concat (args.getD 1 0) (args.getD 0 0)) f = args := by
  cases f
  case op => exact (List.length_eq_zero_iff.mp (Nat.succ.inj h)).symm
  case opImm8 | prefixed =>
    obtain ⟨n, rfl⟩ := List.length_eq_one_iff.mp (Nat.succ.inj h)
    rfl
  case opImm16 =>
    obtain ⟨lo, hi, rfl⟩ := List.length_eq_two.mp (Nat.succ.inj h)
    simp [formatArgs]

/-- Each of the 256 entries of the base map encodes to its opcode and immediates; STOP's ignored byte is written as 0x00. -/
theorem encode_baseInstr (p : StopLength) (op lo hi : Byte) :
    encode p (baseInstr op lo hi) =
      op :: formatArgs (if op = 0x10 then 0 else lo) (concat hi lo) (instrFormat p op) := by
  obtain ⟨n, hn, rfl⟩ := byte_eq_ofNat op
  cases p <;> interval_cases n <;> rfl

/-- Each of the 256 entries of the prefixed map encodes to the escape and its opcode. -/
theorem encode_prefixedInstr (p : StopLength) (b : Byte) : encode p (prefixedInstr b) = [0xCB, b] := by
  obtain ⟨n, hn, rfl⟩ := byte_eq_ofNat b
  interval_cases n <;> rfl

/-- Only the escape's entry of the base map is no instruction of its own (R425). -/
theorem baseInstr_wellFormed (op lo hi : Byte) : (baseInstr op lo hi).wellFormed = decide (op ≠ 0xCB) := by
  obtain ⟨n, hn, rfl⟩ := byte_eq_ofNat op
  interval_cases n <;> rfl

theorem prefixedInstr_wellFormed (b : Byte) : (prefixedInstr b).wellFormed = true := by
  obtain ⟨n, hn, rfl⟩ := byte_eq_ofNat b
  interval_cases n <;> rfl

theorem entryOf_wellFormed (bytes : List Byte) : (entryOf bytes).wellFormed = true := by
  cases bytes with
  | nil => rfl
  | cons op args =>
    by_cases h : op = 0xCB
    · rw [h, entryOf_prefixed, prefixedInstr_wellFormed]
    · rw [entryOf_base h, baseInstr_wellFormed, decide_eq_true h]

/-- STOP alone has an encoding that depends on `STOP_LENGTH` (R136). -/
theorem encode_of_ne_stop (p : StopLength) {i : Instr} (h : i ≠ .stop) : encode p i = encode .one i := by
  cases i
  case stop => exact absurd rfl h
  all_goals rfl

/-- Every well-formed instruction is the entry that its encoding selects, for both lengths of STOP. -/
theorem entryOf_encode_any (p : StopLength) {i : Instr} (h : i.wellFormed = true) : entryOf (encode p i) = i := by
  by_cases hstop : i = .stop
  · subst hstop
    cases p <;> rfl
  · rw [encode_of_ne_stop p hstop, entryOf_encode i h]

/-- The opcode and the arguments of an encoding have the length of the opcode's format (R120, R136). -/
theorem encodedLength (i : Instr) : EncodedLength.Statement i := by
  intro p hw
  rcases instr_cases i with ⟨op, rfl⟩ | ⟨b, rfl⟩ | ⟨b, rfl⟩ | ⟨op, lo, hi, hop, rfl⟩
  · exact EncodedLength.illegal op p hw
  · cases hw
  · exact ⟨0xCB, [b], encode_prefixedInstr p b, rfl⟩
  · exact ⟨op, _, encode_baseInstr p op lo hi, formatArgs_length _ _ _⟩

/-- Settles O10: an encoding has the length of its opcode's format, and selects the instruction's own entry. -/
theorem decodeOfEncode : Obligations.DecodeOfEncode := by
  intro p i rest hw
  obtain ⟨op, args, henc, hlen⟩ := encodedLength i p hw
  rw [henc]
  exact decode_eq_ok_iff.mpr ⟨op, args, rfl, hlen, henc ▸ entryOf_encode_any p hw⟩

/-- An entry encodes to the bytes that selected it, but for the ignored byte of STOP. -/
theorem encode_entryOf {p : StopLength} {op : Byte} {args : List Byte}
    (hlen : args.length + 1 = (instrFormat p op).length) (hstop : op = 0x10 → p = .one) :
    encode p (entryOf (op :: args)) = op :: args := by
  by_cases hcb : op = 0xCB
  · subst hcb
    obtain ⟨b, rfl⟩ := List.length_eq_one_iff.mp (Nat.succ.inj hlen)
    exact encode_prefixedInstr p b
  · rw [entryOf_base hcb, encode_baseInstr]
    by_cases h10 : op = 0x10
    · obtain rfl := hstop h10
      subst h10
      rw [List.length_eq_zero_iff.mp (Nat.succ.inj hlen)]
      rfl
    · rw [if_neg h10, formatArgs_getD hlen]

/-- Settles O11: the entry that was decoded encodes to the bytes that selected it. -/
theorem encodeOfDecode : Obligations.EncodeOfDecode := by
  intro p bytes rest i h
  obtain ⟨op, args, rfl, hlen, rfl⟩ := decode_eq_ok_iff.mp h
  refine ⟨entryOf_wellFormed _, ?_⟩
  by_cases hstop : op = 0x10 ∧ p = .two
  · obtain ⟨rfl, rfl⟩ := hstop
    obtain ⟨b, rfl⟩ := List.length_eq_one_iff.mp (Nat.succ.inj hlen)
    exact .inr ⟨rfl, rfl, b, rfl⟩
  · refine .inl (congrArg (· ++ rest) (encode_entryOf hlen fun hop => ?_))
    cases p
    · rfl
    · exact absurd ⟨hop, rfl⟩ hstop

/-- Every format has one to three bytes. -/
theorem format_length_bounds (f : Format) : 1 ≤ f.length ∧ f.length ≤ 3 := by cases f <;> decide

/-- Settles O12: three bytes are enough for every format. -/
theorem decodeIsTotal : Obligations.DecodeIsTotal := by
  intro p op b1 b2 rest
  obtain ⟨h1, h3⟩ := format_length_bounds (instrFormat p op)
  generalize hn : (instrFormat p op).length = n at h1 h3
  refine ⟨entryOf (op :: (b1 :: b2 :: rest).take (n - 1)), (b1 :: b2 :: rest).drop (n - 1),
    decode_eq_ok_iff.mpr ⟨op, _, ?_, ?_, rfl⟩, entryOf_wellFormed _, ?_⟩
  · rw [List.cons_append, List.take_append_drop]
  · simp only [List.length_take, List.length_cons, hn]
    omega
  · simp only [List.length_drop, List.length_cons]
    omega

/-- An illegal marker is its opcode alone (R134, R426). -/
theorem eq_of_baseInstr_eq_illegal {op lo hi x : Byte} (h : baseInstr op lo hi = .illegal x) (p : StopLength) :
    x = op ∧ instrFormat p op = .op := by
  have henc : [x] = op :: formatArgs _ _ (instrFormat p op) :=
    (congrArg (encode p) h).symm.trans (encode_baseInstr p op lo hi)
  cases hf : instrFormat p op <;> rw [hf] at henc <;> cases henc
  exact ⟨rfl, rfl⟩

theorem baseInstr_eq_illegal_iff {op lo hi x : Byte} :
    baseInstr op lo hi = .illegal x ↔ x = op ∧ op ∈ illegalOpcodes := by
  constructor
  · intro h
    obtain ⟨rfl, hf⟩ := eq_of_baseInstr_eq_illegal h .one
    have hop : x ≠ 0xCB := by
      rintro rfl
      cases hf
    have hw : (Instr.illegal x).wellFormed = true := by rw [← h, baseInstr_wellFormed, decide_eq_true hop]
    exact ⟨rfl, of_decide_eq_true hw⟩
  · rintro ⟨rfl, hx⟩
    simp only [illegalOpcodes, List.mem_cons, List.not_mem_nil, or_false] at hx
    rcases hx with rfl | rfl | rfl | rfl | rfl | rfl | rfl | rfl | rfl | rfl | rfl <;> rfl

/-- Settles O13: the encodings of the base map tell which entries are illegal markers. -/
theorem illegalEntries : Obligations.IllegalEntries :=
  ⟨fun _ _ _ _ => baseInstr_eq_illegal_iff, fun p _ _ _ h => (eq_of_baseInstr_eq_illegal h p).2, fun _ _ => rfl⟩

/-- Settles O14: the maps are read at each word. -/
theorem decodedWords : Obligations.DecodedWords :=
  ⟨rfl, rfl, rfl, rfl, rfl, rfl, rfl, rfl, rfl, rfl, rfl, rfl, rfl⟩

end Sys2Proof.Proofs
end

section
/-! SUPPORT. The step procedure (30_encoding.md, R130, R131, R140): the fetch as a fetch of so many bytes, the gates one by
one, and that no step stops. -/

namespace Sys2Proof.Proofs

open Sys2Proof.Machine Sys2Proof.Laws Sys2Proof.Claims

/-! ### The fetch -/

@[simp] theorem fetchBytes_zero (s : State) : fetchBytes 0 s = ([], s) := rfl

@[simp] theorem fetchBytes_succ (n : Nat) (s : State) :
    fetchBytes (n + 1) s = (s.fetch8.1 :: (fetchBytes n s.fetch8.2).1, (fetchBytes n s.fetch8.2).2) := rfl

@[simp] theorem fetchBytes_length (n : Nat) (s : State) : (fetchBytes n s).1.length = n := by
  induction n generalizing s with
  | zero => rfl
  | succ n ih => exact congrArg (· + 1) (ih s.fetch8.2)

/-- PC goes on by one for each byte fetched, modulo 2^16 (R34). -/
theorem fetchBytes_pc (n : Nat) (s : State) : (fetchBytes n s).2.pc = s.pc + BitVec.ofNat 16 n := by
  induction n generalizing s with
  | zero => simp
  | succ n ih =>
    calc (fetchBytes (n + 1) s).2.pc = s.pc + 1#16 + BitVec.ofNat 16 n := ih s.fetch8.2
      _ = s.pc + BitVec.ofNat 16 (n + 1) := by rw [BitVec.add_assoc, Nat.add_comm n, BitVec.ofNat_add]

/-- The length of the instruction at PC (R136). -/
def fetchLength (s : State) : Nat := (instrFormat s.stopLength s.fetch8.1).length

theorem exists_fetchLength (s : State) : ∃ n, fetchLength s = n + 1 :=
  Nat.exists_eq_add_of_le' (format_length_bounds _).1

/-- The fetch of the step procedure takes the bytes of the opcode's format, and gives the entry that they select. -/
theorem fetchInstr_eq (s : State) :
    s.fetchInstr = (entryOf (fetchBytes (fetchLength s) s).1, (fetchBytes (fetchLength s) s).2) := by
  unfold State.fetchInstr fetchLength
  dsimp only
  cases hf : instrFormat s.stopLength s.fetch8.1
  case prefixed =>
    have hop := (instrFormat_eq_prefixed_iff _ _).mp hf
    simp only [Format.length, fetchBytes_succ, fetchBytes_zero, hop, entryOf_prefixed, List.getD_cons_zero]
  all_goals simp [Format.length, entryOf_of_format hf nofun]

/-- The bytes that a fetch takes decode to the instruction that it gives. -/
theorem decode_fetchBytes (s : State) :
    decode s.stopLength (fetchBytes (fetchLength s) s).1 = .ok (s.fetchInstr.1, []) := by
  obtain ⟨n, hn⟩ := exists_fetchLength s
  rw [fetchInstr_eq]
  refine decode_eq_ok_iff.mpr ⟨s.fetch8.1, (fetchBytes n s.fetch8.2).1, ?_, ?_, ?_⟩
  · rw [hn, List.append_nil, fetchBytes_succ]
  · rw [fetchBytes_length]
    exact hn.symm
  · rw [hn, fetchBytes_succ]

/-- Bytes at PC that decode, with none left, are those that the step procedure fetches. -/
theorem fetchInstr_of_decode {s : State} {n : Nat} {i : Instr}
    (h : decode s.stopLength (fetchBytes n s).1 = .ok (i, [])) : s.fetchInstr = (i, (fetchBytes n s).2) := by
  obtain ⟨op, args, hbytes, hlen, rfl⟩ := decode_eq_ok_iff.mp h
  rw [List.append_nil] at hbytes
  cases n with
  | zero => cases hbytes
  | succ n =>
    have hcons : s.fetch8.1 :: (fetchBytes n s.fetch8.2).1 = op :: args := hbytes
    obtain ⟨hop, hargs⟩ := List.cons.inj hcons
    have hn : fetchLength s = n + 1 := by
      rw [fetchLength, hop, ← hlen, ← hargs, fetchBytes_length]
    rw [fetchInstr_eq, hn, hbytes]

/-- Settles O16: a running core executes what it fetches, and it fetches the bytes at PC that decode. -/
theorem stepRunsDecoded : Obligations.StepRunsDecoded := by
  refine ⟨fun s n i hrun h => ?_, fun s _ => ?_⟩
  · rw [← State.takeWake_stopLength s] at h
    rw [step_running hrun, fetchInstr_of_decode h, fetchBytes_pc, State.takeWake_pc]
    exact ⟨rfl, rfl⟩
  · obtain ⟨h1, h3⟩ := format_length_bounds (instrFormat s.takeWake.stopLength s.takeWake.fetch8.1)
    exact ⟨fetchLength s.takeWake, _, h1, h3, State.takeWake_stopLength s ▸ decode_fetchBytes s.takeWake⟩

/-! ### The gates -/

theorem step_idle {s t : State} (h : s.takeWake.idleStep = some t) : step s = .next t := by
  unfold step
  rw [h]

theorem idleStep_of_fault {s : State} {op : Byte} (h : s.fault = some op) :
    s.idleStep = some (s.report (.illegal op) 0) := by
  simp [State.idleStep, h]

theorem idleStep_of_halted {s : State} (hf : s.fault = none) (h : s.halted = true) :
    s.idleStep = some (s.report .halted 4) := by
  simp [State.idleStep, hf, h]

theorem idleStep_of_stopped {s : State} (hf : s.fault = none) (hh : s.halted = false) (h : s.stopped = true) :
    s.idleStep = some (s.report .stopped 4) := by
  simp [State.idleStep, hf, hh, h]

/-- Settles O17: the first closed gate decides what the idle step reports. -/
theorem gatesInOrder : Obligations.GatesInOrder := fun _ =>
  ⟨fun _ hf => step_idle (idleStep_of_fault hf), fun hf hh => step_idle (idleStep_of_halted hf hh),
    fun hf hh hs => step_idle (idleStep_of_stopped hf hh hs)⟩

/-! ### No step stops -/

/-- Settles O8: every instruction answers the state of an action. -/
theorem everyInstructionCompletes : Obligations.EveryInstructionCompletes := by
  intro i s
  obtain ⟨a, ha⟩ := exec_eq_next i s
  exact ⟨a.next s, ha⟩

theorem step_completes (s : State) : ∃ t, step s = .next t := by
  cases h : s.takeWake.idleStep with
  | some t => exact ⟨t, step_idle h⟩
  | none =>
    rw [step_running ((idleStep_none_iff _).mp h)]
    exact everyInstructionCompletes _ _

/-- Settles O9: induction over the steps, each of which answers a next state. -/
theorem everyRunGoesOn : Obligations.EveryRunGoesOn := by
  intro n
  induction n with
  | zero => exact fun s => ⟨s, rfl⟩
  | succ n ih =>
    intro s
    obtain ⟨t, ht⟩ := step_completes s
    rw [run_next n ht]
    exact ih t

end Sys2Proof.Proofs
end

section
/-! SUPPORT. Loads, stores and stack transfers (40_loads.md, R200 to R225): the action that a byte of given fields (R121)
selects, and what the loads and the stack operations leave, in the terms of the rules. -/

namespace Sys2Proof.Proofs

open Sys2Proof.Machine Sys2Proof.Laws Sys2Proof.Claims

/-! ### A byte and its fields (R121) -/

@[simp] theorem byteXYZ_x (x : BitVec 2) (y z : BitVec 3) : (byteXYZ x y z).extractLsb' 6 2 = x := by
  rw [byteXYZ, BitVec.extractLsb'_append_eq_of_le (by decide), BitVec.extractLsb'_append_eq_of_le (by decide),
    BitVec.extractLsb'_eq_self]

@[simp] theorem byteXYZ_y (x : BitVec 2) (y z : BitVec 3) : (byteXYZ x y z).extractLsb' 3 3 = y := by
  rw [byteXYZ, BitVec.extractLsb'_append_eq_of_le (by decide), BitVec.extractLsb'_append_eq_of_add_le (by decide),
    BitVec.extractLsb'_eq_self]

@[simp] theorem byteXYZ_z (x : BitVec 2) (y z : BitVec 3) : (byteXYZ x y z).extractLsb' 0 3 = z := by
  rw [byteXYZ, BitVec.extractLsb'_append_eq_of_add_le (by decide), BitVec.extractLsb'_eq_self]

/-- The fields p and q are the field y. -/
theorem byteXPQZ_eq_byteXYZ (x p : BitVec 2) (q : BitVec 1) (z : BitVec 3) :
    byteXPQZ x p q z = byteXYZ x (p ++ q) z := by
  revert x p q z
  decide

@[simp] theorem append_field_p (p : BitVec 2) (q : BitVec 1) : (p ++ q).extractLsb' 1 2 = p := by
  rw [BitVec.extractLsb'_append_eq_of_le (by decide), BitVec.extractLsb'_eq_self]

@[simp] theorem append_field_q (p : BitVec 2) (q : BitVec 1) : (p ++ q).extractLsb' 0 1 = q := by
  rw [BitVec.extractLsb'_append_eq_of_add_le (by decide), BitVec.extractLsb'_eq_self]

/-- The escape 0xCB has x = 3 and z = 3. -/
theorem byteXYZ_ne_escape {x : BitVec 2} {y z : BitVec 3} (h : x ≠ 3 ∨ z ≠ 3) : byteXYZ x y z ≠ 0xCB := by
  intro hcb
  have hx : x = 3 := by rw [← byteXYZ_x x y z, hcb]; rfl
  have hz : z = 3 := by rw [← byteXYZ_z x y z, hcb]; rfl
  exact h.elim (absurd hx) (absurd hz)

theorem exec_byteXYZ0 (y z : BitVec 3) (lo hi : Byte) (s : State) :
    exec (baseInstr (byteXYZ 0 y z) lo hi) s = .next ((actionX0 y z lo hi).next s) := by
  rw [exec_baseInstr (byteXYZ_ne_escape (.inl (by decide)))]
  simp [baseAction]

theorem exec_byteXYZ1 (y z : BitVec 3) (lo hi : Byte) (s : State) :
    exec (baseInstr (byteXYZ 1 y z) lo hi) s = .next ((actionX1 y z).next s) := by
  rw [exec_baseInstr (byteXYZ_ne_escape (.inl (by decide)))]
  simp [baseAction]

theorem exec_byteXYZ3 (y : BitVec 3) {z : BitVec 3} (hz : z ≠ 3) (lo hi : Byte) (s : State) :
    exec (baseInstr (byteXYZ 3 y z) lo hi) s = .next ((actionX3 (byteXYZ 3 y z) y z lo hi s).next s) := by
  rw [exec_baseInstr (byteXYZ_ne_escape (.inr hz))]
  simp [baseAction]

/-- The code 6 is no register (R122). -/
theorem ne_six_of_ofCode_eq_reg {y : BitVec 3} {r : Reg8} (h : Operand8.ofCode y = .reg r) : y ≠ 6 := by
  rintro rfl
  cases h

/-! ### 8-bit loads by the kind of their operands -/

/-- A load of a register from memory (R201, R205, R206, R209, R210, R213, R215, R217). -/
theorem load8_reg_mem (r : Reg8) (m : MemOperand) (n : Nat) (s : State) :
    load8 (.reg r) (.opnd (.mem m)) n s =
      .next ((((s.afterRead (s.ea m)).postModify m).setReg8 r (s.memByte (s.ea m))).report .ok n) := rfl

/-- A store of a register to memory (R202, R207, R208, R211, R212, R214, R216, R218). -/
theorem load8_mem_reg (m : MemOperand) (r : Reg8) (n : Nat) (s : State) :
    load8 (.mem m) (.opnd (.reg r)) n s =
      .next (((s.memWrite (s.ea m) (s.reg8 r)).postModify m).report .ok n) := rfl

/-- A write leaves HL, which then steps from its old value (R211, R212). -/
theorem memWrite_hl (s : State) (x : Word) (v : Byte) : (s.memWrite x v).hl = s.hl := by simp [State.hl]

theorem load8_atHLInc_reg (r : Reg8) (n : Nat) (s : State) :
    load8 (.mem .atHLInc) (.opnd (.reg r)) n s =
      .next (((s.memWrite s.hl (s.reg8 r)).setHL (s.hl + 1)).report .ok n) := by
  rw [load8_mem_reg, State.postModify, memWrite_hl]
  rfl

theorem load8_atHLDec_reg (r : Reg8) (n : Nat) (s : State) :
    load8 (.mem .atHLDec) (.opnd (.reg r)) n s =
      .next (((s.memWrite s.hl (s.reg8 r)).setHL (s.hl - 1)).report .ok n) := by
  rw [load8_mem_reg, State.postModify, memWrite_hl]
  rfl

/-- Settles O35: two register codes select the load between the two registers. -/
theorem loadRegReg : Obligations.LoadRegReg := by
  intro y z r r' lo hi s hy hz
  have hy6 : y ≠ 6 := ne_six_of_ofCode_eq_reg hy
  rw [exec_byteXYZ1, actionX1, if_neg fun h => hy6 h.1, hy, hz]
  rfl

/-- Settles O36: the code 6 in the place of one register is the byte at HL. -/
theorem loadRegMem : Obligations.LoadRegMem := by
  intro y r lo hi s hy
  have hy6 : y ≠ 6 := ne_six_of_ofCode_eq_reg hy
  constructor
  · rw [exec_byteXYZ1, actionX1, if_neg fun h => hy6 h.1, hy]
    rfl
  · rw [exec_byteXYZ1, actionX1, if_neg fun h => hy6 h.2, hy]
    rfl

/-- Settles O37: the source is the immediate byte, whatever the destination. -/
theorem loadImmediate : Obligations.LoadImmediate := by
  refine ⟨fun y r n hi s hy => ?_, fun n hi s => load8_eq (.mem .atHL) (.imm8 n) 12 s⟩
  rw [exec_byteXYZ0]
  simp only [actionX0, hy]
  rfl

/-- Settles O38: A and a memory operand, whose pair is read before HL steps. -/
theorem loadAccIndirect : Obligations.LoadAccIndirect := fun _ _ s =>
  ⟨load8_reg_mem .a .atBC 8 s, load8_reg_mem .a .atDE 8 s, load8_mem_reg .atBC .a 8 s, load8_mem_reg .atDE .a 8 s,
    load8_reg_mem .a .atHLInc 8 s, load8_reg_mem .a .atHLDec 8 s, load8_atHLInc_reg .a 8 s, load8_atHLDec_reg .a 8 s⟩

/-! ### Addresses as arithmetic -/

/-- A little-endian immediate (R12, R131). -/
theorem concat_eq_ofNat (hi lo : Byte) : concat hi lo = BitVec.ofNat 16 (hi.toNat * 256 + lo.toNat) := by
  rw [← concat_toNat, BitVec.ofNat_toNat, BitVec.setWidth_eq]

/-- The address of the high page (R126). -/
theorem highPage_eq_ofNat (b : Byte) : 0xFF00 + zext16 b = BitVec.ofNat 16 (0xFF00 + b.toNat) := by
  rw [BitVec.ofNat_add, BitVec.ofNat_toNat]
  rfl

/-- The low byte of a word as a remainder (R12). -/
theorem loByte_eq_ofNat (v : Word) : loByte v = BitVec.ofNat 8 v.toNat := rfl

/-- Settles O39: A and a memory operand, with its address as arithmetic. -/
theorem loadAccAbsolute : Obligations.LoadAccAbsolute := by
  intro lo hi s
  dsimp only
  rw [← concat_eq_ofNat, ← highPage_eq_ofNat, ← highPage_eq_ofNat]
  exact ⟨load8_reg_mem .a (.atA16 (concat hi lo)) 16 s, load8_mem_reg (.atA16 (concat hi lo)) .a 16 s,
    load8_reg_mem .a (.atA8 lo) 12 s, load8_mem_reg (.atA8 lo) .a 12 s, load8_reg_mem .a .atC 8 s,
    load8_mem_reg .atC .a 8 s⟩

/-! ### 16-bit loads and the stack -/

/-- Settles O40: the load of a pair for every code of `rp`, and the two rows of their own. -/
theorem loadSixteen : Obligations.LoadSixteen := by
  refine ⟨fun p lo hi s => ?_, fun lo hi s => ?_, fun lo hi s => load16_eq .sp s.hl 8 s⟩
  · rw [byteXPQZ_eq_byteXYZ, exec_byteXYZ0, ← concat_eq_ofNat]
    simp [actionX0, Action.next]
  · rw [BitVec.ofNat_add, ← concat_eq_ofNat, ← hiByte_eq, ← loByte_eq_ofNat]
    exact storeSP_eq (concat hi lo) 20 s

/-- A push as the two writes of R96. -/
theorem push16_eq_pushed (s : State) (v : Word) : s.push16 v = pushed s v := by
  have h : s.sp - 1 - 1 = s.sp - 2 := by rw [BitVec.sub_sub]; rfl
  rw [push16_eq, h, pushed]

/-- A pop as the two reads of R97. -/
theorem pop16_eq_popped (s : State) : s.pop16 = popped s := by
  have h : s.sp + 1 + 1 = s.sp + 2 := by rw [BitVec.add_assoc]; rfl
  rw [← Prod.eta s.pop16, pop16_fst, pop16_snd, h, popped]

theorem pairCode_cases (p : BitVec 2) : p = 0 ∨ p = 1 ∨ p = 2 ∨ p = 3 := by
  revert p
  decide

/-- The codes of `rp` and of `rp2` name the same pair, but for 3 (R123). -/
theorem setStackReg_ofCode {p : BitVec 2} (h : p ≠ 3) (s : State) (v : Word) :
    s.setStackReg (StackReg.ofCode p) v = s.setReg16 (Reg16.ofCode p) v := by
  rcases pairCode_cases p with rfl | rfl | rfl | rfl
  case inr.inr.inr => exact absurd rfl h
  all_goals rfl

/-- Row by row, POP takes the pair of its field p (R224, R225). -/
theorem exec_pop (p : BitVec 2) (lo hi : Byte) (s : State) :
    exec (baseInstr (byteXPQZ 3 p 0 1) lo hi) s = popReg (StackReg.ofCode p) 12 s := by
  rcases pairCode_cases p with rfl | rfl | rfl | rfl <;> rfl

/-- Settles O41: the push of a stack register, and the pop by the pair that is written. -/
theorem pushAndPop : Obligations.PushAndPop := by
  refine ⟨fun p lo hi s => ?_, fun p lo hi s hp => ?_, fun lo hi s => ?_⟩
  · rw [byteXPQZ_eq_byteXYZ, exec_byteXYZ3 _ (by decide), ← push16_eq_pushed]
    simp [actionX3, Action.next]
  · rw [exec_pop, popReg_eq, setStackReg_ofCode hp, pop16_eq_popped]
  · have hpop : exec (baseInstr 0xF1 lo hi) s = popReg .af 12 s := exec_pop 3 lo hi s
    rw [hpop, popReg_eq, pop16_eq_popped, ← setAF_eq]
    rfl

end Sys2Proof.Proofs
end

section
/-! SUPPORT. 8-bit arithmetic and logic (41_alu8.md, R250 to R266): what the operations on values answer, as arithmetic on
naturals, and what each form of an instruction leaves in terms of them. -/

namespace Sys2Proof.Proofs

open Sys2Proof.Machine Sys2Proof.Laws Sys2Proof.Claims

/-! ### Bytes as naturals -/

@[simp] theorem lowNibble_toNat (v : Byte) : (v &&& 0xF).toNat = v.toNat % 16 := by
  rw [BitVec.toNat_and]
  exact Nat.and_two_pow_sub_one_eq_mod v.toNat 4

/-- A narrowed result is zero when the exact one is zero modulo 256 (R13). -/
theorem ofNat_beq_zero (n : Nat) : (BitVec.ofNat 8 n == 0) = decide (n % 256 = 0) := by
  rw [beq_eq_decide, decide_eq_decide, ← BitVec.toNat_inj]
  simp

/-! ### The ALU operations (R250 to R258) -/

theorem exec_byteXYZ2 (y z : BitVec 3) (lo hi : Byte) (s : State) :
    exec (baseInstr (byteXYZ 2 y z) lo hi) s = .next ((actionX2 y z).next s) := by
  rw [exec_baseInstr (byteXYZ_ne_escape (.inl (by decide)))]
  simp [baseAction]

/-- Every form of an operation leaves its result and flags on A, the source and the old flags. -/
theorem exec_aluForm {y : BitVec 3} {s : State} {i : Instr} {v : Byte} {s1 : State} {n : Nat}
    (h : AluForm y s i v s1 n) :
    exec i s = .next ({ s1 with
      a := ((AluOp.ofCode y).apply s.a v s.f).1
      f := ((AluOp.ofCode y).apply s.a v s.f).2 }.report .ok n) := by
  cases h with
  | reg z r lo hi hz =>
    rw [exec_byteXYZ2, actionX2, hz]
    rfl
  | atHL lo hi =>
    rw [exec_byteXYZ2]
    rfl
  | imm n hi =>
    rw [exec_byteXYZ3 y (by decide)]
    rfl

/-- The sum (R251, R252). -/
theorem add8_eq (a v : Byte) (cin : Bool) :
    add8 a v cin = (BitVec.ofNat 8 (a.toNat + v.toNat + cin.toNat),
      { z := decide ((a.toNat + v.toNat + cin.toNat) % 256 = 0)
        n := false
        h := decide (a.toNat % 16 + v.toNat % 16 + cin.toNat > 15)
        c := decide (a.toNat + v.toNat + cin.toNat > 255) }) := by
  simp only [add8, lowNibble_toNat, ofNat_beq_zero]

/-- The difference (R253, R254), lifted by 512 so that it is a natural. -/
theorem sub_borrow_eq_ofNat (a v : Byte) (cin : Bool) :
    a - v - BitVec.ofNat 8 cin.toNat = BitVec.ofNat 8 (a.toNat + 512 - v.toNat - cin.toNat) := by
  have hc : cin.toNat ≤ 1 := Bool.toNat_le cin
  have ha := a.isLt
  have hv := v.isLt
  apply BitVec.eq_of_toNat_eq
  simp only [BitVec.toNat_sub, BitVec.toNat_ofNat]
  omega

theorem sub_borrow_eq_ofInt (a v : Byte) (cin : Bool) :
    a - v - BitVec.ofNat 8 cin.toNat = BitVec.ofInt 8 (a.toNat - v.toNat - cin.toNat) := by
  have hc : cin.toNat ≤ 1 := Bool.toNat_le cin
  have ha := a.isLt
  have hv := v.isLt
  apply BitVec.eq_of_toNat_eq
  simp only [BitVec.toNat_sub, BitVec.toNat_ofNat, BitVec.toNat_ofInt]
  omega

theorem sub8_eq (a v : Byte) (cin : Bool) :
    sub8 a v cin = (BitVec.ofInt 8 (a.toNat - v.toNat - cin.toNat),
      { z := decide ((a.toNat + 512 - v.toNat - cin.toNat) % 256 = 0)
        n := true
        h := decide (a.toNat % 16 < v.toNat % 16 + cin.toNat)
        c := decide (a.toNat < v.toNat + cin.toNat) }) := by
  rw [← sub_borrow_eq_ofInt, ← ofNat_beq_zero, ← sub_borrow_eq_ofNat]
  simp only [sub8, lowNibble_toNat]

/-- Without a borrow in (R253, R258), the difference is zero when the operands are equal. -/
theorem sub8_false (a v : Byte) :
    sub8 a v false = (BitVec.ofInt 8 (a.toNat - v.toNat),
      { z := decide (a = v)
        n := true
        h := decide (a.toNat % 16 < v.toNat % 16)
        c := decide (a.toNat < v.toNat) }) := by
  have hz : (a.toNat + 512 - v.toNat) % 256 = 0 ↔ a = v := by
    have ha := a.isLt
    have hv := v.isLt
    rw [← BitVec.toNat_inj]
    omega
  simp [sub8_eq, hz]

/-- Settles O42: both forms of the sum are `add8`, without and with the old carry. -/
theorem addWithCarry : Obligations.AddWithCarry := by
  refine ⟨fun s i v s1 n h => ?_, fun s i v s1 n h => ?_⟩
  · have hop : (AluOp.ofCode 0).apply s.a v s.f = add8 s.a v false := rfl
    rw [exec_aluForm h, hop, add8_eq]
    rfl
  · have hop : (AluOp.ofCode 1).apply s.a v s.f = add8 s.a v s.f.c := rfl
    rw [exec_aluForm h, hop, add8_eq]

/-- CP leaves A as the read of its source leaves it (R258). -/
theorem aluForm_a {y : BitVec 3} {s : State} {i : Instr} {v : Byte} {s1 : State} {n : Nat}
    (h : AluForm y s i v s1 n) : s1.a = s.a := by
  cases h <;> rfl

/-- Settles O43: the three operations are `sub8`, and the state after CP keeps its A. -/
theorem subtractAndCompare : Obligations.SubtractAndCompare := by
  refine ⟨fun s i v s1 n h => ?_, fun s i v s1 n h => ?_, fun s i v s1 n h => ?_⟩
  · have hop : (AluOp.ofCode 2).apply s.a v s.f = sub8 s.a v false := rfl
    rw [exec_aluForm h, hop, sub8_false]
  · have hop : (AluOp.ofCode 3).apply s.a v s.f = sub8 s.a v s.f.c := rfl
    rw [exec_aluForm h, hop, sub8_eq]
  · have hop : (AluOp.ofCode 7).apply s.a v s.f = (s.a, (sub8 s.a v false).2) := rfl
    rw [exec_aluForm h, hop, sub8_false, ← aluForm_a h]

/-- Settles O44: the result is the bitwise operation on the two bytes. -/
theorem logicOperations : Obligations.LogicOperations := by
  refine fun s i v s1 n => ⟨fun h => ⟨s.a &&& v, fun k _ => BitVec.getLsbD_and, ?_⟩,
    fun h => ⟨s.a ^^^ v, fun k _ => BitVec.getLsbD_xor, ?_⟩,
    fun h => ⟨s.a ||| v, fun k _ => BitVec.getLsbD_or, ?_⟩⟩
  all_goals
    rw [exec_aluForm h, ← beq_eq_decide]
    rfl

/-! ### INC and DEC (R259 to R262) -/

/-- R259, R260. -/
theorem inc8_eq (v : Byte) (f : Flags) :
    inc8 v f = (BitVec.ofNat 8 (v.toNat + 1),
      { z := decide (v = 0xFF), n := false, h := decide (v.toNat % 16 = 15), c := f.c }) := by
  have hw : v + 1 = BitVec.ofNat 8 (v.toNat + 1) := by simp [BitVec.ofNat_add]
  have hz : (v + 1 == 0) = decide (v = 0xFF) := by
    rw [beq_eq_decide, decide_eq_decide]
    exact add_eq_zero_iff_eq_neg
  have hh : (v &&& 0xF == 0xF) = decide (v.toNat % 16 = 15) := by
    rw [beq_eq_decide, decide_eq_decide, ← BitVec.toNat_inj, lowNibble_toNat]
    rfl
  rw [inc8, hz, hh, hw]

/-- R261, R262. -/
theorem dec8_eq (v : Byte) (f : Flags) :
    dec8 v f = (BitVec.ofNat 8 (v.toNat + 255),
      { z := decide (v = 0x01), n := true, h := decide (v.toNat % 16 = 0), c := f.c }) := by
  have hw : v - 1 = BitVec.ofNat 8 (v.toNat + 255) := by
    rw [BitVec.ofNat_add, BitVec.ofNat_toNat, BitVec.setWidth_eq, BitVec.sub_eq_add_neg]
    rfl
  have hz : (v - 1 == 0) = decide (v = 0x01) := by
    rw [beq_eq_decide, decide_eq_decide]
    exact sub_eq_zero
  have hh : (v &&& 0xF == 0) = decide (v.toNat % 16 = 0) := by
    rw [beq_eq_decide, decide_eq_decide, ← BitVec.toNat_inj, lowNibble_toNat]
    rfl
  rw [dec8, hz, hh, hw]

/-- A form of a read-modify-write instruction reads and puts back the operand of its code, and the read keeps the flags. -/
theorem modifyForm_operand {reg mem : Nat} {s s1 : State} {y : BitVec 3} {v : Byte} {put : Byte → State} {n : Nat}
    (h : ModifyForm reg mem s y v s1 put n) :
    s.readOperand (Operand8.ofCode y) = (v, s1) ∧ (∀ w, s1.writeOperand (Operand8.ofCode y) w = put w) ∧
      s1.f = s.f ∧ operandCycles reg mem (Operand8.ofCode y) = n := by
  cases h with
  | reg _ r hy =>
    rw [hy]
    exact ⟨rfl, fun _ => rfl, rfl, rfl⟩
  | atHL => exact ⟨rfl, fun _ => rfl, rfl, rfl⟩

/-- Settles O45: both forms put back what `inc8` and `dec8` answer. -/
theorem incrementDecrement : Obligations.IncrementDecrement := by
  intro s s1 y v put n lo hi h
  obtain ⟨hread, hput, hf, hn⟩ := modifyForm_operand h
  constructor
  · rw [exec_byteXYZ0]
    simp [actionX0, Action.next, hread, hput, hf, hn, inc8_eq]
  · rw [exec_byteXYZ0]
    simp [actionX0, Action.next, hread, hput, hf, hn, dec8_eq]

/-! ### DAA (R263) -/

/-- The correction of DAA as a natural: both conditions test the original A. -/
def decimalCorrection (a : Nat) (f : Flags) : Nat :=
  (if f.h = true ∨ (f.n = false ∧ a % 16 > 9) then 0x06 else 0) +
  (if f.c = true ∨ (f.n = false ∧ a > 0x99) then 0x60 else 0)

/-- The A that DAA leaves, as a natural. -/
def decimalResult (a : Nat) (f : Flags) : Nat :=
  if f.n then (a + 256 - decimalCorrection a f) % 256 else (a + decimalCorrection a f) % 256

theorem decimalCorrection_le (a : Nat) (f : Flags) : decimalCorrection a f ≤ 0x66 := by
  unfold decimalCorrection
  split <;> split <;> decide

theorem daaCorrection_eq_ofNat (a : Byte) (f : Flags) :
    daaCorrection a f = BitVec.ofNat 8 (decimalCorrection a.toNat f) := by
  simp only [daaCorrection, decimalCorrection, lowNibble_toNat, Bool.or_eq_true, Bool.and_eq_true, Bool.not_eq_true',
    decide_eq_true_eq, BitVec.ofNat_add]
  congr 1 <;> split <;> rfl

theorem daa_eq (a : Byte) (f : Flags) :
    daa a f = (BitVec.ofNat 8 (decimalResult a.toNat f),
      { z := decide (decimalResult a.toNat f = 0)
        n := f.n
        h := false
        c := decide (decimalCorrection a.toNat f ≥ 0x60) }) := by
  have hle := decimalCorrection_le a.toNat f
  have hr : (if f.n then a - daaCorrection a f else a + daaCorrection a f) =
      BitVec.ofNat 8 (decimalResult a.toNat f) := by
    rw [daaCorrection_eq_ofNat, decimalResult]
    split
    all_goals
      apply BitVec.eq_of_toNat_eq
      simp only [BitVec.toNat_sub, BitVec.toNat_add, BitVec.toNat_ofNat]
      omega
  have hlt : decimalResult a.toNat f < 256 := by
    unfold decimalResult
    split <;> exact Nat.mod_lt _ (by decide)
  have hc : (daaCorrection a f).toNat = decimalCorrection a.toNat f := by
    rw [daaCorrection_eq_ofNat, BitVec.toNat_ofNat, Nat.mod_eq_of_lt (by omega)]
  simp only [daa, hr, hc, ofNat_beq_zero, Nat.mod_eq_of_lt hlt]

theorem exec_daa (s : State) :
    exec .daa s = .next ({ s with a := (daa s.a s.f).1, f := (daa s.a s.f).2 }.report .ok 4) := daaAcc_eq 4 s

/-- Settles O46: the correction and the corrected A as naturals. -/
theorem decimalAdjust : Obligations.DecimalAdjust := by
  intro s
  rw [exec_daa, daa_eq]
  rfl

/-! ### Packed-decimal arithmetic -/

theorem bcd_toNat {x : Nat} (h : x < 100) : (bcd x).toNat = x / 10 * 16 + x % 10 := by
  rw [bcd, BitVec.toNat_ofNat, Nat.mod_eq_of_lt (by omega)]

/-- Correcting the low digit makes the byte hold the tens and the units of `10 * p + q`; correcting the high digit then
drops the hundreds. -/
theorem packed_digitSums {p q : Nat} (hp : p ≤ 18) (hq : q ≤ 18) :
    (16 * p + q + ((if 10 ≤ q then 0x06 else 0) + (if 100 ≤ 10 * p + q then 0x60 else 0))) % 256 =
      (10 * p + q) % 100 / 10 * 16 + (10 * p + q) % 100 % 10 := by
  have hlow : 16 * p + q + (if 10 ≤ q then 0x06 else 0) = 16 * ((10 * p + q) / 10) + (10 * p + q) % 10 := by
    split_ifs <;> omega
  have hn : 10 * p + q ≤ 198 := by omega
  rw [← add_assoc, hlow]
  generalize 10 * p + q = n at hn
  split_ifs <;> omega

/-- As `packed_digitSums`, with a borrow of ten and of a hundred in the place of the carries. -/
theorem packed_digitDifferences {p q : Int} (hp : -9 ≤ p ∧ p ≤ 9) (hq : -9 ≤ q ∧ q ≤ 9) :
    ((16 * p + q - ((if q < 0 then 0x06 else 0) + (if 10 * p + q < 0 then 0x60 else 0) : Nat)) % 256).toNat =
      ((10 * p + q) % 100).toNat / 10 * 16 + ((10 * p + q) % 100).toNat % 10 := by
  have hlow : 16 * p + q - (if q < 0 then 0x06 else 0 : Nat) = 16 * ((10 * p + q) / 10) + (10 * p + q) % 10 := by
    split_ifs <;> omega
  have hn : -99 ≤ 10 * p + q ∧ 10 * p + q ≤ 99 := by omega
  rw [Nat.cast_add, ← sub_sub, hlow]
  generalize 10 * p + q = n at hn
  split_ifs <;> omega

/-- A difference of bytes, lifted by 256 so that it is a natural. -/
theorem sub_mod_toNat {n : Nat} (h : n ≤ 0x66) (z : Int) :
    ((z % (2 ^ 8 : Nat)).toNat + 256 - n) % 256 = ((z - n) % 256).toNat := by
  omega

/-- DAA after ADD, from the sums `p` of the high and `q` of the low digits. -/
theorem daa_digitSums {p q : Nat} (hp : p ≤ 18) (hq : q ≤ 18) (f : Flags) (hn : f.n = false)
    (hh : f.h = decide (15 < q)) (hc : f.c = decide (255 < 16 * p + q)) :
    (daa (BitVec.ofNat 8 (16 * p + q)) f).1 = bcd ((10 * p + q) % 100) ∧
    (daa (BitVec.ofNat 8 (16 * p + q)) f).2.c = decide (100 ≤ 10 * p + q) := by
  have hcorr : decimalCorrection ((16 * p + q) % 256) f =
      (if 10 ≤ q then 0x06 else 0) + (if 100 ≤ 10 * p + q then 0x60 else 0) := by
    simp only [decimalCorrection, hn, hh, hc, decide_eq_true_eq, true_and]
    congr 1 <;> refine if_congr ?_ rfl rfl <;> omega
  rw [daa_eq, decimalResult, hn, if_neg Bool.false_ne_true, BitVec.toNat_ofNat, hcorr, decide_eq_decide, bcd,
    ← packed_digitSums hp hq, Nat.mod_add_mod]
  refine ⟨rfl, ?_⟩
  split_ifs <;> omega

/-- DAA after SUB, from the differences `p` of the high and `q` of the low digits. -/
theorem daa_digitDifferences {p q : Int} (hp : -9 ≤ p ∧ p ≤ 9) (hq : -9 ≤ q ∧ q ≤ 9) (f : Flags) (hn : f.n = true)
    (hh : f.h = decide (q < 0)) (hc : f.c = decide (16 * p + q < 0)) :
    (daa (BitVec.ofInt 8 (16 * p + q)) f).1 = bcd ((10 * p + q) % 100).toNat ∧
    (daa (BitVec.ofInt 8 (16 * p + q)) f).2.c = decide (10 * p + q < 0) := by
  have hcorr (a : Nat) : decimalCorrection a f =
      (if q < 0 then 0x06 else 0) + (if 10 * p + q < 0 then 0x60 else 0) := by
    simp only [decimalCorrection, hn, hh, hc, decide_eq_true_eq, Bool.true_eq_false, false_and, or_false]
    congr 1
    refine if_congr ?_ rfl rfl
    omega
  rw [daa_eq, decimalResult, hn, if_pos rfl, BitVec.toNat_ofInt, sub_mod_toNat (decimalCorrection_le _ f), hcorr,
    decide_eq_decide, bcd, ← packed_digitDifferences hp hq]
  refine ⟨rfl, ?_⟩
  split_ifs <;> omega

theorem daa_add8_bcd {x y : Nat} (hx : x < 100) (hy : y < 100) :
    (daa (add8 (bcd x) (bcd y) false).1 (add8 (bcd x) (bcd y) false).2).1 = bcd ((x + y) % 100) ∧
    (daa (add8 (bcd x) (bcd y) false).1 (add8 (bcd x) (bcd y) false).2).2.c = decide (100 ≤ x + y) := by
  have hsum : x + y = 10 * (x / 10 + y / 10) + (x % 10 + y % 10) := by omega
  have hbytes : x / 10 * 16 + x % 10 + (y / 10 * 16 + y % 10) = 16 * (x / 10 + y / 10) + (x % 10 + y % 10) := by
    omega
  rw [add8_eq, bcd_toNat hx, bcd_toNat hy, Bool.toNat_false, Nat.add_zero, Nat.add_zero, hbytes, hsum]
  refine daa_digitSums (by omega) (by omega) _ rfl ?_ rfl
  rw [decide_eq_decide]
  omega

theorem daa_sub8_bcd {x y : Nat} (hx : x < 100) (hy : y < 100) :
    (daa (sub8 (bcd x) (bcd y) false).1 (sub8 (bcd x) (bcd y) false).2).1 = bcd ((x + 100 - y) % 100) ∧
    (daa (sub8 (bcd x) (bcd y) false).1 (sub8 (bcd x) (bcd y) false).2).2.c = decide (x < y) := by
  have hdiff : (x + 100 - y) % 100 = ((10 * (x / 10 - y / 10 : Int) + (x % 10 - y % 10 : Int)) % 100).toNat := by omega
  have hlt : x < y ↔ 10 * (x / 10 - y / 10 : Int) + (x % 10 - y % 10 : Int) < 0 := by omega
  have hbytes : ((x / 10 * 16 + x % 10 : Nat) - (y / 10 * 16 + y % 10 : Nat) : Int) =
      16 * (x / 10 - y / 10 : Int) + (x % 10 - y % 10 : Int) := by
    omega
  rw [sub8_false, bcd_toNat hx, bcd_toNat hy, hbytes, hdiff, decide_eq_decide.mpr hlt]
  refine daa_digitDifferences (by omega) (by omega) _ rfl ?_ ?_
  · rw [decide_eq_decide]
    omega
  · rw [decide_eq_decide]
    omega

/-- Settles O47: DAA corrects what ADD and SUB leave, digit by digit. -/
theorem decimalArithmetic : Obligations.DecimalArithmetic := by
  intro s x y hx hy hs
  obtain ⟨hadd, haddc⟩ := daa_add8_bcd hx hy
  obtain ⟨hsub, hsubc⟩ := daa_sub8_bcd hx hy
  rw [← hs] at hadd haddc hsub hsubc
  exact ⟨⟨_, _, alu_eq .add (.imm8 (bcd y)) 8 s, exec_daa _, hadd, haddc⟩,
    ⟨_, _, alu_eq .sub (.imm8 (bcd y)) 8 s, exec_daa _, hsub, hsubc⟩⟩

/-! ### CPL, SCF and CCF (R264 to R266) -/

/-- The complement of a byte as a difference (R264). -/
theorem not_eq_ofNat (v : Byte) : ~~~v = BitVec.ofNat 8 (255 - v.toNat) := by
  apply BitVec.eq_of_toNat_eq
  rw [BitVec.toNat_not, BitVec.toNat_ofNat]
  omega

/-- Settles O48: CPL with the complement as arithmetic; SCF and CCF write the flags only. -/
theorem complementAndCarry : Obligations.ComplementAndCarry := by
  refine fun s => ⟨?_, setCarry_eq 4 s, complementCarry_eq 4 s⟩
  rw [← not_eq_ofNat]
  exact cplAcc_eq 4 s

end Sys2Proof.Proofs
end

section
/-! SUPPORT. 16-bit arithmetic (42_alu16.md, R300 to R304, and R222): the sums and flags on words as arithmetic on
naturals and integers, and what the instructions leave in terms of them. -/

namespace Sys2Proof.Proofs

open Sys2Proof.Machine Sys2Proof.Laws Sys2Proof.Claims

/-! ### Words as naturals -/

/-- A mask of low bits takes a remainder. -/
theorem and_lowMask_toNat {w k : Nat} (v m : BitVec w) (hm : m.toNat = 2 ^ k - 1) :
    (v &&& m).toNat = v.toNat % 2 ^ k := by
  rw [BitVec.toNat_and, hm, Nat.and_two_pow_sub_one_eq_mod]

/-- The sum of INC rr (R301). -/
theorem word_inc_eq_ofNat (v : Word) : v + 1 = BitVec.ofNat 16 (v.toNat + 1) := by
  apply BitVec.eq_of_toNat_eq
  rw [word_inc_toNat, BitVec.toNat_ofNat]

/-- The difference of DEC rr (R302), lifted by 65536 so that it is a natural. -/
theorem word_dec_eq_ofNat (v : Word) : v - 1 = BitVec.ofNat 16 (v.toNat + 65535) := by
  apply BitVec.eq_of_toNat_eq
  rw [word_dec_toNat, BitVec.toNat_ofNat]

/-! ### INC rr, DEC rr and ADD HL,rr (R301 to R303) -/

/-- The sum of ADD HL,rr, and its carries out of bits 11 and 15 (R303). -/
theorem addHL_eq (h v : Word) (f : Flags) :
    addHL h v f = (BitVec.ofNat 16 (h.toNat + v.toNat),
      { z := f.z
        n := false
        h := decide (h.toNat % 4096 + v.toNat % 4096 > 4095)
        c := decide (h.toNat + v.toNat > 65535) }) := by
  have hlow (x : Word) : (x &&& 0xFFF).toNat = x.toNat % 4096 := and_lowMask_toNat (k := 12) x 0xFFF rfl
  simp only [addHL, hlow]

/-- The action of a base opcode with x = 0 by the fields p and q (R121, R123). -/
theorem exec_byteXPQZ0 (p : BitVec 2) (q : BitVec 1) (z : BitVec 3) (lo hi : Byte) (s : State) :
    exec (baseInstr (byteXPQZ 0 p q z) lo hi) s = .next ((actionX0 (p ++ q) z lo hi).next s) := by
  rw [byteXPQZ_eq_byteXYZ, exec_byteXYZ0]

/-- Settles O49: the fields p and q select the operation and its pair. -/
theorem pairArithmetic : Obligations.PairArithmetic := by
  intro p lo hi s
  refine ⟨?_, ?_, ?_⟩
  · rw [exec_byteXPQZ0, ← word_inc_eq_ofNat]
    simp [actionX0, Action.next]
  · rw [exec_byteXPQZ0, ← word_dec_eq_ofNat]
    simp [actionX0, Action.next]
  · rw [exec_byteXPQZ0]
    simp [actionX0, Action.next, addHL_eq]

/-! ### ADD SP,e8 and LD HL,SP+e8 (R300, R304, R222) -/

/-- The offset is signed: its extension is the word of its integer. -/
theorem add_sext16_eq_ofInt (v : Word) (e : Byte) : v + sext16 e = BitVec.ofInt 16 (v.toNat + e.toInt) := by
  have he : sext16 e = BitVec.ofInt 16 e.toInt := rfl
  rw [BitVec.ofInt_add, BitVec.ofInt_natCast, BitVec.ofNat_toNat, BitVec.setWidth_eq, he]

/-- The signed sum, and the carries of the unsigned low-byte addition (R300). -/
theorem spAddE8_eq (sp : Word) (e : Byte) :
    spAddE8 sp e = (BitVec.ofInt 16 (sp.toNat + e.toInt),
      { z := false
        n := false
        h := decide (sp.toNat % 16 + e.toNat % 16 > 15)
        c := decide (sp.toNat % 256 + e.toNat > 255) }) := by
  have hnibble : (sp &&& 0xF).toNat = sp.toNat % 16 := and_lowMask_toNat (k := 4) sp 0xF rfl
  have hbyte : (sp &&& 0xFF).toNat = sp.toNat % 256 := and_lowMask_toNat (k := 8) sp 0xFF rfl
  simp only [spAddE8, add_sext16_eq_ofInt, hnibble, hbyte, lowNibble_toNat]

/-- Settles O50: both instructions take the sum and the flags of `spAddE8`. -/
theorem stackPointerOffset : Obligations.StackPointerOffset := by
  intro e hi s
  have hadd : exec (baseInstr 0xE8 e hi) s = addSP e 16 s := rfl
  have hload : exec (baseInstr 0xF8 e hi) s = loadHLSP e 12 s := rfl
  rw [hadd, hload, addSP_eq, loadHLSP_eq, spAddE8_eq]
  exact ⟨rfl, rfl⟩

end Sys2Proof.Proofs
end

section
/-! SUPPORT. Rotates, shifts and bits (43_rotate_shift_bit.md, R330 to R345): the rotated and shifted bytes as arithmetic
on naturals, RES and SET bit by bit, and what each form of an instruction leaves in terms of them. -/

namespace Sys2Proof.Proofs

open Sys2Proof.Machine Sys2Proof.Laws Sys2Proof.Claims

/-! ### Joining the two parts of a rotated byte -/

/-- A byte moved up by `k` and a byte below `2 ^ k` share no bit, so that joining them is a sum. -/
theorem shiftLeft_or_toNat {k : Nat} (hk : k ≤ 8) (v : Byte) {w : Byte} (hw : w.toNat < 2 ^ k) :
    (v <<< k ||| w).toNat = 2 ^ k * (v.toNat % 2 ^ (8 - k)) + w.toNat := by
  have hv : (v <<< k).toNat = 2 ^ k * (v.toNat % 2 ^ (8 - k)) := by
    have h8 : 2 ^ 8 = 2 ^ k * 2 ^ (8 - k) := by rw [← pow_add, Nat.add_sub_cancel' hk]
    rw [BitVec.toNat_shiftLeft, Nat.shiftLeft_eq, h8, Nat.mul_comm, Nat.mul_mod_mul_left]
  rw [BitVec.toNat_or, hv, Nat.two_pow_add_eq_or_of_lt hw]

theorem shiftRight_toNat (v : Byte) (k : Nat) : (v >>> k).toNat = v.toNat / 2 ^ k := by
  rw [BitVec.toNat_ushiftRight, Nat.shiftRight_eq_div_pow]

/-- A left rotate or shift, with the bit that enters at the bottom (R335, R337). -/
theorem shiftLeft_one_or_bit (v : Byte) (b : Bool) :
    (v <<< 1 ||| if b then 0x01 else 0) = BitVec.ofNat 8 ((2 * v.toNat + b.toNat) % 256) := by
  have hb : (if b then 0x01 else 0 : Byte).toNat = b.toNat := by cases b <;> rfl
  have hle := Bool.toNat_le b
  apply BitVec.eq_of_toNat_eq
  rw [shiftLeft_or_toNat (by decide) v (by omega), hb, BitVec.toNat_ofNat]
  omega

/-- SLA: a zero enters (R339). -/
theorem shiftLeft_one (v : Byte) : v <<< 1 = BitVec.ofNat 8 (2 * v.toNat % 256) := by
  simpa using shiftLeft_one_or_bit v false

/-- A right rotate or shift, with the bit that enters at the top (R336, R338, R340). -/
theorem shiftRight_one_or_bit (v : Byte) (b : Bool) :
    (v >>> 1 ||| if b then 0x80 else 0) = BitVec.ofNat 8 (v.toNat / 2 + 128 * b.toNat) := by
  have hb : (if b then 0x80 else 0 : Byte) = BitVec.ofNat 8 b.toNat <<< 7 := by cases b <;> rfl
  have hle := Bool.toNat_le b
  have hv := v.isLt
  apply BitVec.eq_of_toNat_eq
  rw [hb, BitVec.or_comm, shiftLeft_or_toNat (by decide) _ (by rw [shiftRight_toNat]; omega), shiftRight_toNat,
    BitVec.toNat_ofNat, BitVec.toNat_ofNat]
  omega

/-- SRL: a zero enters (R342). -/
theorem shiftRight_one (v : Byte) : v >>> 1 = BitVec.ofNat 8 (v.toNat / 2) := by
  simpa using shiftRight_one_or_bit v false

/-- The exchanged nibbles (R341). -/
theorem swap_nibbles (v : Byte) :
    (((v &&& 0x0F) <<< 4) ||| (v >>> 4)) = BitVec.ofNat 8 (v.toNat % 16 * 16 + v.toNat / 16) := by
  have hv := v.isLt
  apply BitVec.eq_of_toNat_eq
  rw [shiftLeft_or_toNat (by decide) _ (by rw [shiftRight_toNat]; omega), shiftRight_toNat, lowNibble_toNat,
    BitVec.toNat_ofNat]
  omega

/-- The bits 7 and 0 of a byte, which leave it on a rotate or shift. -/
theorem getLsbD_seven (v : Byte) : v.getLsbD 7 = decide (v.toNat / 128 = 1) := by
  have hv := v.isLt
  rw [← BitVec.testBit_toNat, Nat.testBit_eq_decide_div_mod_eq, decide_eq_decide]
  omega

theorem getLsbD_zero (v : Byte) : v.getLsbD 0 = decide (v.toNat % 2 = 1) := by
  rw [← BitVec.testBit_toNat, Nat.testBit_eq_decide_div_mod_eq, pow_zero, Nat.div_one]

theorem getLsbD_seven_toNat (v : Byte) : (v.getLsbD 7).toNat = v.toNat / 128 := by
  have hv := v.isLt
  rw [getLsbD_seven, Bool.toNat, Bool.cond_decide]
  split <;> omega

theorem getLsbD_zero_toNat (v : Byte) : (v.getLsbD 0).toNat = v.toNat % 2 := by
  rw [getLsbD_zero, Bool.toNat, Bool.cond_decide]
  split <;> omega

/-- SRA keeps bit 7 (R340). -/
theorem and_0x80 (v : Byte) : v &&& 0x80 = if v.getLsbD 7 then 0x80 else 0 := BitVec.and_twoPow v 7

/-! ### The rotates and shifts (R330 to R342) -/

/-- Each operation leaves the byte and the bit out of `shiftArith`. -/
theorem shiftOp_apply_eq (y : BitVec 3) (v : Byte) (c : Bool) :
    (ShiftOp.ofCode y).apply v c =
      (BitVec.ofNat 8 (shiftArith y v.toNat c.toNat).1, decide ((shiftArith y v.toNat c.toNat).2 = 1)) := by
  unfold ShiftOp.ofCode shiftArith
  generalize y.toNat = code
  match code with
  | 0 => simp only [ShiftOp.apply, shiftLeft_one_or_bit, getLsbD_seven_toNat, ← getLsbD_seven]
  | 1 => simp only [ShiftOp.apply, shiftRight_one_or_bit, getLsbD_zero_toNat, ← getLsbD_zero]
  | 2 => simp only [ShiftOp.apply, shiftLeft_one_or_bit, getLsbD_seven]
  | 3 => simp only [ShiftOp.apply, shiftRight_one_or_bit, getLsbD_zero]
  | 4 => simp only [ShiftOp.apply, shiftLeft_one, getLsbD_seven]
  | 5 => simp only [ShiftOp.apply, and_0x80, shiftRight_one_or_bit, getLsbD_seven_toNat, getLsbD_zero]
  | 6 => exact Prod.ext (swap_nibbles v) rfl
  | _ + 7 => simp only [ShiftOp.apply, shiftRight_one, getLsbD_zero]

/-- The result of a rotate or shift is a byte. -/
theorem shiftArith_fst_lt (y : BitVec 3) (v : Byte) (c : Bool) : (shiftArith y v.toNat c.toNat).1 < 256 := by
  have hv := v.isLt
  have hc := Bool.toNat_le c
  unfold shiftArith
  split <;> dsimp only <;> omega

/-- The four codes `0cc` of row z = 7 are the rotates. -/
theorem accumulatorAction_cc0 (k : BitVec 2) : accumulatorAction (cc0 k) = .rotateAcc (ShiftOp.ofCode (cc0 k)) 4 := by
  have hk : k = 0 ∨ k = 1 ∨ k = 2 ∨ k = 3 := by
    revert k
    decide
  rcases hk with rfl | rfl | rfl | rfl <;> rfl

/-- Settles O51: the rotate of A as arithmetic, with the flags that the accumulator rotates leave. -/
theorem accumulatorRotates : Obligations.AccumulatorRotates := by
  intro k lo hi s
  have haction : actionX0 (cc0 k) 7 lo hi = .rotateAcc (ShiftOp.ofCode (cc0 k)) 4 := accumulatorAction_cc0 k
  rw [exec_byteXYZ0, haction, Action.next, shiftOp_apply_eq]
  rfl

/-! ### Prefixed instructions by their fields (R129, R334) -/

theorem modifyCycles_eq (o : Operand8) : modifyCycles o = operandCycles 8 16 o := by cases o <;> rfl

theorem bitCycles_eq (o : Operand8) : bitCycles o = operandCycles 8 12 o := by cases o <;> rfl

theorem prefixedAction_shift (y z : BitVec 3) :
    prefixedAction (byteXYZ 0 y z) =
      .shiftOperand (ShiftOp.ofCode y) (Operand8.ofCode z) (operandCycles 8 16 (Operand8.ofCode z)) := by
  simp [prefixedAction, modifyCycles_eq]

theorem prefixedAction_bitTest (u z : BitVec 3) :
    prefixedAction (byteXYZ 1 u z) =
      .bitTest u.toNat (Operand8.ofCode z) (operandCycles 8 12 (Operand8.ofCode z)) := by
  simp [prefixedAction, bitCycles_eq]

theorem prefixedAction_bitClear (u z : BitVec 3) :
    prefixedAction (byteXYZ 2 u z) =
      .bitClear u.toNat (Operand8.ofCode z) (operandCycles 8 16 (Operand8.ofCode z)) := by
  simp [prefixedAction, modifyCycles_eq]

theorem prefixedAction_bitSet (u z : BitVec 3) :
    prefixedAction (byteXYZ 3 u z) =
      .bitSet u.toNat (Operand8.ofCode z) (operandCycles 8 16 (Operand8.ofCode z)) := by
  simp [prefixedAction, modifyCycles_eq]

/-- Settles O52: both forms put back the byte of `shiftArith`, which is zero when its natural is. -/
theorem prefixedShifts : Obligations.PrefixedShifts := by
  intro s s1 y z v put n h
  obtain ⟨hread, hput, hf, hn⟩ := modifyForm_operand h
  have hlt := shiftArith_fst_lt y v s.f.c
  rw [exec_prefixedInstr, prefixedAction_shift]
  simp only [Action.next, hread, hput, hf, hn, shiftOp_apply_eq, shiftFlags, ofNat_beq_zero, Nat.mod_eq_of_lt hlt]

/-! ### SWAP twice (R341) -/

@[simp] theorem reg8_report (s : State) (r : Reg8) (st : Status) (n : Nat) : (s.report st n).reg8 r = s.reg8 r := by
  cases r <;> rfl

@[simp] theorem reg8_with_f (s : State) (r : Reg8) (f : Flags) : ({ s with f := f } : State).reg8 r = s.reg8 r := by
  cases r <;> rfl

/-- SWAP on a register leaves its nibbles exchanged. -/
theorem exec_swap_reg {z : BitVec 3} {r : Reg8} (h : Operand8.ofCode z = .reg r) (s : State) :
    ∃ t, exec (prefixedInstr (byteXYZ 0 6 z)) s = .next t ∧
      (t.reg8 r).toNat = (s.reg8 r).toNat % 16 * 16 + (s.reg8 r).toNat / 16 := by
  refine ⟨_, prefixedShifts s s 6 z _ _ _ (.reg z r h), ?_⟩
  rw [reg8_report, reg8_with_f, State.reg8_setReg8, if_pos rfl, BitVec.toNat_ofNat]
  exact Nat.mod_eq_of_lt (shiftArith_fst_lt 6 (s.reg8 r) s.f.c)

/-- Settles O53: exchanging the nibbles twice gives the byte back. -/
theorem swapTwice : Obligations.SwapTwice := by
  intro z r s h
  obtain ⟨t, hst, ht⟩ := exec_swap_reg h s
  obtain ⟨u, htu, hu⟩ := exec_swap_reg h t
  refine ⟨t, u, hst, htu, BitVec.eq_of_toNat_eq ?_, ht⟩
  have hv := (s.reg8 r).isLt
  omega

/-! ### BIT, RES and SET (R343 to R345) -/

/-- Settles O54: only the flags are written, from the bit of the byte that the operand reads as. -/
theorem bitTest : Obligations.BitTest := by
  intro s s1 u z v put n h
  obtain ⟨hread, -, hf, hn⟩ := modifyForm_operand h
  rw [exec_prefixedInstr, prefixedAction_bitTest]
  simp only [Action.next, hread, hf, hn, bitFlags]

theorem getLsbD_clearBit (v : Byte) (u : Nat) {k : Nat} (hk : k < 8) :
    (clearBit v u).getLsbD k = if k = u then false else v.getLsbD k := by
  have hmask : (0xFF - (1 : Byte) <<< u) = ~~~BitVec.twoPow 8 u := BitVec.allOnes_sub_eq_not _
  rw [clearBit, hmask, BitVec.getLsbD_and, BitVec.getLsbD_not, BitVec.getLsbD_twoPow]
  by_cases h : k = u
  · simp [h]
  · simp [hk, h, Ne.symm h]

theorem getLsbD_setBit (v : Byte) (u : Nat) {k : Nat} (hk : k < 8) :
    (setBit v u).getLsbD k = if k = u then true else v.getLsbD k := by
  have hmask : (1 : Byte) <<< u = BitVec.twoPow 8 u := (BitVec.twoPow_eq 8 u).symm
  rw [setBit, hmask, BitVec.getLsbD_or, BitVec.getLsbD_twoPow]
  by_cases h : k = u
  · simp [h, h ▸ hk]
  · simp [h, Ne.symm h]

/-- Settles O55: the byte put back is `clearBit` or `setBit` of the byte read. -/
theorem bitClearAndSet : Obligations.BitClearAndSet := by
  intro s s1 u z v put n h
  obtain ⟨hread, hput, -, hn⟩ := modifyForm_operand h
  refine ⟨⟨clearBit v u.toNat, fun _ => getLsbD_clearBit v u.toNat, ?_⟩,
    ⟨setBit v u.toNat, fun _ => getLsbD_setBit v u.toNat, ?_⟩⟩
  · rw [exec_prefixedInstr, prefixedAction_bitClear]
    simp only [Action.next, hread, hput, hn]
  · rw [exec_prefixedInstr, prefixedAction_bitSet]
    simp only [Action.next, hread, hput, hn]

end Sys2Proof.Proofs
end

section
/-! SUPPORT. Control transfer (44_control.md, R380 to R391): the condition of a field cc (R124), the operation that each
opcode selects, and a call with the return at its target. -/

namespace Sys2Proof.Proofs

open Sys2Proof.Machine Sys2Proof.Laws Sys2Proof.Claims

/-! ### The conditional forms by their field cc -/

/-- `Cond(k)` of R380 is the test that the code names. -/
theorem cond_ofCode (k : BitVec 2) (s : State) : s.cond (Cond.ofCode k) = holds k s.f := by
  rcases pairCode_cases k with rfl | rfl | rfl | rfl <;> rfl

/-- JP cc (R382), row by row. -/
theorem exec_jp_cc (k : BitVec 2) (lo hi : Byte) (s : State) :
    exec (baseInstr (byteXYZ 3 (cc0 k) 2) lo hi) s = jump (Cond.ofCode k) (concat hi lo) 16 12 s := by
  rcases pairCode_cases k with rfl | rfl | rfl | rfl <;> rfl

/-- JR cc (R385), row by row. -/
theorem exec_jr_cc (k : BitVec 2) (lo hi : Byte) (s : State) :
    exec (baseInstr (byteXYZ 0 (cc1 k) 0) lo hi) s = jumpRelative (Cond.ofCode k) lo 12 8 s := by
  rcases pairCode_cases k with rfl | rfl | rfl | rfl <;> rfl

/-- CALL cc (R387), row by row. -/
theorem exec_call_cc (k : BitVec 2) (lo hi : Byte) (s : State) :
    exec (baseInstr (byteXYZ 3 (cc0 k) 4) lo hi) s = call (Cond.ofCode k) (concat hi lo) 24 12 s := by
  rcases pairCode_cases k with rfl | rfl | rfl | rfl <;> rfl

/-- RET cc (R390), row by row. -/
theorem exec_ret_cc (k : BitVec 2) (lo hi : Byte) (s : State) :
    exec (baseInstr (byteXYZ 3 (cc0 k) 0) lo hi) s = ret (Cond.ofCode k) 20 8 s := by
  rcases pairCode_cases k with rfl | rfl | rfl | rfl <;> rfl

/-! ### The unconditional forms -/

theorem jump_always (x : Word) (m n : Nat) (s : State) :
    jump .always x m n s = .next ({ s with pc := x }.report .ok m) := jump_eq .always x m n s

/-- The base of a relative jump is the PC after the displacement, which is signed (R384). -/
theorem jumpRelative_always (e : Byte) (m n : Nat) (s : State) :
    jumpRelative .always e m n s =
      .next ({ s with pc := BitVec.ofInt 16 (s.pc.toNat + e.toInt) }.report .ok m) := by
  rw [← add_sext16_eq_ofInt]
  exact jumpRelative_eq .always e m n s

theorem call_always (x : Word) (m n : Nat) (s : State) :
    call .always x m n s = .next ({ pushed s s.pc with pc := x }.report .ok m) := by
  rw [← push16_eq_pushed]
  exact call_eq .always x m n s

theorem ret_always (m n : Nat) (s : State) :
    ret .always m n s = .next ({ (popped s).2 with pc := (popped s).1 }.report .ok m) := by
  rw [← pop16_eq_popped]
  exact ret_eq .always m n s

/-- The vector of RST (R388). -/
theorem rst_vector (y : BitVec 3) : y.zeroExtend 16 * 8 = BitVec.ofNat 16 (8 * y.toNat) := by
  rw [BitVec.ofNat_mul, BitVec.mul_comm, BitVec.ofNat_toNat]
  rfl

/-- RST is a call of its vector (R388). -/
theorem exec_rst (y : BitVec 3) (lo hi : Byte) (s : State) :
    exec (baseInstr (byteXYZ 3 y 7) lo hi) s = call .always (BitVec.ofNat 16 (8 * y.toNat)) 16 16 s := by
  rw [exec_byteXYZ3 y (by decide), ← rst_vector]
  exact (Action.run_eq_next (.call .always (y.zeroExtend 16 * 8) 16 16) s).symm

/-! ### Jumps, calls and returns -/

/-- Settles O56: each opcode selects a jump, whose condition is the test of its field cc. -/
theorem jumps : Obligations.Jumps := by
  refine fun k lo hi s => ⟨jump_always (concat hi lo) 16 16 s, ?_, jump_always s.hl 4 4 s,
    jumpRelative_always lo 12 12 s, ?_⟩
  · rw [exec_jp_cc, jump_eq, cond_ofCode]
  · rw [exec_jr_cc, jumpRelative_eq, cond_ofCode, add_sext16_eq_ofInt]

/-- Settles O57: each opcode selects a call, and a push is the two writes of R96. -/
theorem calls : Obligations.Calls := by
  refine fun k y lo hi s => ⟨call_always (concat hi lo) 24 24 s, ?_, ?_⟩
  · rw [exec_call_cc, call_eq, cond_ofCode, push16_eq_pushed]
  · rw [exec_rst, call_always]

/-- Settles O58: each opcode selects a return, and a pop is the two reads of R97. -/
theorem returns : Obligations.Returns := by
  refine fun k lo hi s => ⟨ret_always 16 16 s, ?_, ?_⟩
  · rw [exec_ret_cc, ret_eq, cond_ofCode, pop16_eq_popped]
  · rw [← pop16_eq_popped]
    exact retEnable_eq 16 s

/-! ### A call and the return at its target -/

/-- The state that CALL n16 leaves (R386). -/
def called (s : State) (n : Word) : State := { s.push16 s.pc with pc := n }.report .ok 24

/-- The state that RET leaves (R389). -/
def returned (s : State) : State := { s.pop16.2 with pc := s.pop16.1 }.report .ok 16

theorem exec_call_n16 (n : Word) (s : State) : exec (.call_n16 n) s = .next (called s n) := call_eq .always n 24 24 s

theorem exec_ret (s : State) : exec .ret s = .next (returned s) := ret_eq .always 16 16 s

/-- What a pop reads depends neither on PC, which the call sets, nor on its report. -/
theorem called_pop16_fst (s : State) (n : Word) : (called s n).pop16.1 = (s.push16 s.pc).pop16.1 := rfl

theorem called_pop16_sp (s : State) (n : Word) : (called s n).pop16.2.sp = (s.push16 s.pc).pop16.2.sp := rfl

/-- Settles O59: the return pops what the call pushed (`popAfterPush`), and neither writes the other registers. -/
theorem callThenReturn : Obligations.CallThenReturn := by
  intro s n hwf hp hhigh hlow
  obtain ⟨hpc, hsp, -⟩ := popAfterPush s s.pc hwf hp hhigh hlow
  refine ⟨called s n, returned (called s n), exec_call_n16 n s, rfl, exec_ret _, (called_pop16_fst s n).trans hpc,
    (called_pop16_sp s n).trans hsp, ?_⟩
  simp [returned, called, State.bc, State.de, State.hl]

end Sys2Proof.Proofs
end

section
/-! SUPPORT. System instructions and the wake input (45_system.md, R420 to R427): the escape, the idle steps of a core that
is not woken, and the step before which `wake` is presented. -/

namespace Sys2Proof.Proofs

open Sys2Proof.Machine Sys2Proof.Laws

/-! ### The escape and the system instructions -/

theorem exec_prefix_cb (b : Byte) (s : State) : exec (.prefix_cb b) s = .next ((prefixedAction b).next s) :=
  prefixedEntry_eq_next b s

/-- A prefixed instruction has two bytes, an illegal marker one. -/
theorem prefixedInstr_ne_illegal (b x : Byte) : prefixedInstr b ≠ .illegal x := by
  intro h
  have henc : [0xCB, b] = [x] := (encode_prefixedInstr .one b).symm.trans (congrArg (encode .one) h)
  cases henc

/-- Settles O15: the escape and the prefixed entry are the same action, which the two bytes select. -/
theorem prefixEscape : Obligations.PrefixEscape :=
  ⟨fun b s => ⟨_, exec_prefix_cb b s, exec_prefixedInstr b s⟩,
    fun _ b _ => decode_eq_ok_iff.mpr ⟨0xCB, [b], rfl, rfl, rfl⟩, prefixedInstr_ne_illegal⟩

/-- Settles O60: each opcode selects its operation, and STOP is selected by as many bytes as its format has. -/
theorem systemInstructions : Obligations.SystemInstructions :=
  ⟨fun _ _ s => ⟨rfl, enterHalt_eq 4 s, enterStop_eq 4 s, writeIme_eq false 4 s, writeIme_eq true 4 s⟩,
    fun b _ => ⟨decode_eq_ok_iff.mpr ⟨0x10, [b], rfl, rfl, rfl⟩, decode_eq_ok_iff.mpr ⟨0x10, [], rfl, rfl, rfl⟩⟩⟩

/-! ### The environment's event before a step -/

/-- A step before which `wake` is not presented only uses the entry of the schedule (R456). -/
theorem takeWake_of_no_wake {s : State} (h : s.wakeIn.getD 0 false = false) :
    s.takeWake = { s with wakeIn := s.wakeIn.drop 1 } := by
  cases hw : s.wakeIn with
  | nil => rw [takeWake_nil hw, List.drop_nil, ← hw]
  | cons w rest =>
    rw [hw, List.getD_cons_zero] at h
    simp [State.takeWake, hw, h]

/-- A presented `wake` uses its entry and opens the gates of `halted` and `stopped` (R427). -/
theorem takeWake_of_wake {s : State} {rest : List Bool} (h : s.wakeIn = true :: rest) :
    s.takeWake = { s with wakeIn := rest, halted := false, stopped := false } := by
  simp [State.takeWake, State.wake, h]

/-- Settles O20: after a wake only the fault can close a gate. -/
theorem wakeInput : Obligations.WakeInput := by
  refine ⟨fun _ => rfl, fun s rest hw => ⟨fun op hf => ?_, fun hf => ?_⟩⟩
  · rw [step_idle (idleStep_of_fault ((State.takeWake_fault s).trans hf)), takeWake_of_wake hw]
    rfl
  · have hrun : s.takeWake.Running := by
      rw [takeWake_of_wake hw]
      exact ⟨hf, rfl, rfl⟩
    rw [step_running hrun, takeWake_of_wake hw]

/-! ### A core that is not woken -/

/-- A core without a fault whose gate `halted` or `stopped` is closed (R421, R422). -/
def Asleep (s : State) : Prop := s.fault = none ∧ (s.halted = true ∨ s.stopped = true)

/-- What `n` idle steps without a wake leave, the last of which reports the first closed gate. -/
def idled (n : Nat) (s : State) : State :=
  { s with wakeIn := s.wakeIn.drop n }.report (if s.halted then .halted else .stopped) 4

theorem idled_idled (n : Nat) (s : State) : idled n (idled 1 s) = idled (n + 1) s := by
  simp [idled, State.report, Nat.add_comm n 1]

theorem idleStep_of_asleep {s : State} (h : Asleep s) :
    s.idleStep = some (s.report (if s.halted then .halted else .stopped) 4) := by
  obtain ⟨hf, hgate⟩ := h
  cases hh : s.halted with
  | true => exact idleStep_of_halted hf hh
  | false =>
    have hs : s.stopped = true := hgate.resolve_left (by simp [hh])
    exact idleStep_of_stopped hf hh hs

theorem step_asleep {s : State} (h : Asleep s) (hw : s.wakeIn.getD 0 false = false) : step s = .next (idled 1 s) := by
  refine step_idle ?_
  rw [takeWake_of_no_wake hw]
  exact idleStep_of_asleep h

/-- A run of idle steps: each leaves the core asleep, with the rest of the schedule. -/
theorem run_asleep (n : Nat) {s : State} (h : Asleep s) (hw : ∀ k < n + 1, s.wakeIn.getD k false = false) :
    Host.Core.run Sys2Proof.core (n + 1) s = .next (idled (n + 1) s) := by
  induction n generalizing s with
  | zero => exact run_next 0 (step_asleep h (hw 0 (by decide)))
  | succ n ih =>
    have hrest : ∀ k < n + 1, (idled 1 s).wakeIn.getD k false = false := fun k hk => by
      have hnext := hw (k + 1) (by omega)
      simpa [idled, State.report, Nat.add_comm 1 k] using hnext
    rw [run_next (n + 1) (step_asleep h (hw 0 (by omega))), ih (s := idled 1 s) h hrest, idled_idled]

/-- Settles O19: no step, or a run of idle steps. -/
theorem idleUntilWake : Obligations.IdleUntilWake := by
  intro n s hf hgate hw
  cases n with
  | zero => exact ⟨s, rfl, rfl, nofun⟩
  | succ n => exact ⟨idled (n + 1) s, run_asleep n ⟨hf, hgate⟩ hw, rfl, fun _ => ⟨rfl, rfl⟩⟩

end Sys2Proof.Proofs
end

section
/-! SUPPORT. The illegal opcode exception (60_exceptions.md, R453): a faulted core only lets the wake schedule pass. -/

namespace Sys2Proof.Proofs

open Sys2Proof.Machine Sys2Proof.Laws

/-! ### Passing wake events -/

/-- A wake event does not depend on what the step before reported. -/
theorem takeWake_commute_report (st : Status) (c : Nat) :
    Function.Commute State.takeWake fun s => s.report st c := by
  intro s
  simp only [State.takeWake, State.report_wakeIn]
  split
  · rfl
  · split <;> rfl

/-- No wake event clears the fault (R453). -/
theorem takeWake_iterate_fault (n : Nat) (s : State) : (State.takeWake^[n] s).fault = s.fault :=
  congrFun (Function.iterate_invariant (funext State.takeWake_fault) n) s

/-- With `halted` and `stopped` clear, a wake event only uses its entry of the schedule, whatever the entry is. -/
theorem takeWake_of_not_idle {s : State} (hh : s.halted = false) (hs : s.stopped = false) :
    s.takeWake = { s with wakeIn := s.wakeIn.drop 1 } := by
  cases hw : s.wakeIn with
  | nil => rw [takeWake_nil hw, List.drop_nil, ← hw]
  | cons w rest =>
    cases w with
    | true => rw [takeWake_of_wake hw, hh, hs, List.drop_one, List.tail_cons]
    | false => rw [takeWake_of_no_wake (by rw [hw, List.getD_cons_zero]), hw]

theorem takeWake_iterate_of_not_idle (n : Nat) {s : State} (hh : s.halted = false) (hs : s.stopped = false) :
    State.takeWake^[n] s = { s with wakeIn := s.wakeIn.drop n } := by
  induction n with
  | zero => rfl
  | succ n ih =>
    rw [Function.iterate_succ_apply', ih, takeWake_of_not_idle (s := { s with wakeIn := s.wakeIn.drop n }) hh hs,
      List.drop_drop]

/-! ### A faulted core -/

theorem step_faulted {s : State} {op : Byte} (h : s.fault = some op) :
    step s = .next (s.takeWake.report (.illegal op) 0) :=
  step_idle (idleStep_of_fault ((State.takeWake_fault s).trans h))

/-- A run of a faulted core is a run of wake events, the last of which is followed by the report of the fault. -/
theorem run_faulted (n : Nat) {s : State} {op : Byte} (h : s.fault = some op) :
    Host.Core.run Sys2Proof.core (n + 1) s = .next ((State.takeWake^[n + 1] s).report (.illegal op) 0) := by
  induction n generalizing s with
  | zero => exact run_next 0 (step_faulted h)
  | succ n ih =>
    have hnext : (s.takeWake.report (.illegal op) 0).fault = some op := (State.takeWake_fault s).trans h
    rw [run_next (n + 1) (step_faulted h), ih hnext, (takeWake_commute_report _ 0).iterate_left (n + 1) s.takeWake]
    rfl

/-- Settles O18: no step, or a run of wake events with a report. -/
theorem faultIsSticky : Obligations.FaultIsSticky := by
  intro n s op hf
  cases n with
  | zero => exact ⟨s, rfl, hf, nofun, fun _ _ => rfl⟩
  | succ n =>
    refine ⟨_, run_faulted n hf, (takeWake_iterate_fault (n + 1) s).trans hf, fun _ => ⟨rfl, rfl⟩, fun hh hs => ?_⟩
    rw [takeWake_iterate_of_not_idle (n + 1) hh hs]
    rfl

end Sys2Proof.Proofs
end

section
/-! SUPPORT. Construction from the base image (70_reset_and_hazards.md, R491): a valid image that names no cell. -/

namespace Sys2Proof.Proofs

open Sys2Proof.Machine

/-- A construction from a valid image succeeds (R491). -/
theorem construct_of_valid {p : Params} {image : List Byte} {header : Header}
    (h : validateRom p image = .ok header) : construct p image = .ok (constructed p image) := by
  rw [construct, h]
  rfl

/-- Bytes that are all the unlisted ones of their offsets need no cell. -/
theorem imageCells_map_unlisted (i n : Nat) : imageCells i ((List.range' i n).map Memory.unlisted) = [] := by
  induction n generalizing i with
  | zero => rfl
  | succ n ih => rw [List.range'_succ, List.map_cons, imageCells, if_pos rfl, ih]

theorem imageCells_baseImage : imageCells 0 baseImage = [] := by
  rw [baseImage, List.range_eq_range']
  exact imageCells_map_unlisted 0 32768

theorem baseImage_length : baseImage.length = 32768 := by
  rw [baseImage, List.length_map, List.length_range]

theorem baseImage_take {n : Nat} (h : n ≤ 32768) : baseImage.take n = (List.range n).map Memory.unlisted := by
  rw [baseImage, ← List.map_take, List.take_range, Nat.min_eq_left h]

/-- The header of the base image: the codes are zero, so it has two ROM banks and no RAM bank (R84 to R90). -/
def baseHeader : Header where
  title := List.replicate 16 0x00
  licensee := 0
  cgbSupport := false
  sgbSupport := false
  cartType := 0x00
  romBanks := 2
  ramBanks := 0

/-- No check of the validation fails on the base image. -/
theorem validateRom_baseImage : validateRom Params.default baseImage = .ok baseHeader := by
  rw [validateRom, baseImage_length, baseImage_take (by decide)]
  decide

/-- The core built from the base image is the reset state: no cell, and the two banks and the index of 32 KiB. -/
theorem constructed_baseImage : constructed Params.default baseImage = State.reset := by
  rw [constructed, imageCells_baseImage, baseImage_length]
  rfl

/-- Settles O4: the base image is valid, and the core built from it is the reset state. -/
theorem resetIsConstruction : Obligations.ResetIsConstruction :=
  (construct_of_valid validateRom_baseImage).trans (congrArg Except.ok constructed_baseImage)

end Sys2Proof.Proofs
end
